-- ==== Sys2Proof/Word.lean ====
section
/-! DEFINITION. The two word types of the block (00_scope.md rules R8, R15). -/

namespace Sys2Proof

/-- An 8-bit unsigned value (rule R15). -/
abbrev Byte := BitVec 8

/-- A 16-bit unsigned value: an address or the program counter (rule R15). -/
abbrev Word := BitVec 16

end Sys2Proof
end

