-- ==== Sys2Proof/Config.lean ====
section
/-! DEFINITION. The names the opcode table speaks of (mnemonics, addressing modes, operands) and the
implementation parameters of 00_scope.md rules R9 and R11. A run's parameters are plain data, held in
State and changed by no step, so that a statement covers every setting of them (notes/assumptions/3.md).
The parameter MEMORY of rule R10 is RAM (notes/assumptions/1.md). -/

namespace Sys2Proof

/-- The 56 mnemonics (00_scope.md rule R2). -/
inductive Mnemonic where
  | adc | sbc | and | ora | eor | bit | cmp | cpx | cpy
  | asl | lsr | rol | ror
  | dec | dex | dey | inc | inx | iny
  | bcc | bcs | beq | bmi | bne | bpl | bvc | bvs | jmp | jsr | rts | rti | brk
  | lda | ldx | ldy | sta | stx | sty
  | pha | php | pla | plp
  | sec | sed | sei | clc | cld | cli | clv | tax | tay | tsx | txa | txs | tya | nop
deriving DecidableEq, Repr

/-- The 13 addressing modes (30_encoding.md rule R75, 90_conflicts.md C3). -/
inductive Mode where
  | accumulator | implied | immediate
  | zeroPage | zeroPageX | zeroPageY
  | absolute | absoluteX | absoluteY
  | relative | indirect | indirectX | indirectY
deriving DecidableEq, Repr

/-- An addressing mode with the operand bytes it consumes (30_encoding.md rule R68); a two-byte operand is
its little-endian word. -/
inductive Operand where
  | accumulator
  | implied
  | immediate (v : Byte)
  | zeroPage (zz : Byte)
  | zeroPageX (zz : Byte)
  | zeroPageY (zz : Byte)
  | absolute (addr : Word)
  | absoluteX (base : Word)
  | absoluteY (base : Word)
  | relative (rr : Byte)
  | indirect (ptr : Word)
  | indirectX (zz : Byte)
  | indirectY (zz : Byte)
deriving DecidableEq, Repr

/-- The mode of an operand. -/
def Operand.mode : Operand → Mode
  | .accumulator => .accumulator
  | .implied => .implied
  | .immediate _ => .immediate
  | .zeroPage _ => .zeroPage
  | .zeroPageX _ => .zeroPageX
  | .zeroPageY _ => .zeroPageY
  | .absolute _ => .absolute
  | .absoluteX _ => .absoluteX
  | .absoluteY _ => .absoluteY
  | .relative _ => .relative
  | .indirect _ => .indirect
  | .indirectX _ => .indirectX
  | .indirectY _ => .indirectY

/-- An entry of the opcode table: a mnemonic and a mode, or none (00_scope.md rule R9). -/
abbrev TableEntry := Option (Mnemonic × Mode)

/-- The implementation parameters (00_scope.md rules R9, R11) with the spec's defaults. -/
structure Config where
  /-- `BRK_MASKED_BY_I`: BRK is a no-op while I is set (44_control_transfer.md rule R155). -/
  brkMaskedByI : Bool := true
  /-- `BRK_SETS_I`: the BRK trap also sets I (44_control_transfer.md rule R154). -/
  brkSetsI : Bool := false
  /-- `RTS_PULLS_STATUS`: RTS pulls a status byte first (44_control_transfer.md rule R152). -/
  rtsPullsStatus : Bool := false
  /-- `OPCODE_TABLE` as its differences from `STANDARD_TABLE`: the first entry for a byte, if any, replaces the
  standard one. With none it is `STANDARD_TABLE`; a list of 256 changes gives any table (rule R9). -/
  tableChanges : List (Byte × TableEntry) := []
deriving DecidableEq, Repr

end Sys2Proof
end

