-- ==== Sys2Proof/Syntax.lean ====
section
/-! DEFINITION. The instructions: one constructor for each of the 151 rows of spec/opcode_table.json
(`STANDARD_TABLE`, 30_encoding.md rules R77 and R78), with the row's operand bytes (rule R68). A mnemonic with
several rows has the mode at the end of the constructor's name. -/

namespace Sys2Proof

/-- An instruction of `STANDARD_TABLE`. -/
inductive Instr where
  -- ADC, rule R104
  | adcImmediate (v : Byte)
  | adcZeroPage (zz : Byte)
  | adcZeroPageX (zz : Byte)
  | adcAbsolute (addr : Word)
  | adcAbsoluteX (base : Word)
  | adcAbsoluteY (base : Word)
  | adcIndirectX (zz : Byte)
  | adcIndirectY (zz : Byte)
  -- SBC, rule R105
  | sbcImmediate (v : Byte)
  | sbcZeroPage (zz : Byte)
  | sbcZeroPageX (zz : Byte)
  | sbcAbsolute (addr : Word)
  | sbcAbsoluteX (base : Word)
  | sbcAbsoluteY (base : Word)
  | sbcIndirectX (zz : Byte)
  | sbcIndirectY (zz : Byte)
  -- AND, rule R106
  | andImmediate (v : Byte)
  | andZeroPage (zz : Byte)
  | andZeroPageX (zz : Byte)
  | andAbsolute (addr : Word)
  | andAbsoluteX (base : Word)
  | andAbsoluteY (base : Word)
  | andIndirectX (zz : Byte)
  | andIndirectY (zz : Byte)
  -- ORA, rule R107
  | oraImmediate (v : Byte)
  | oraZeroPage (zz : Byte)
  | oraZeroPageX (zz : Byte)
  | oraAbsolute (addr : Word)
  | oraAbsoluteX (base : Word)
  | oraAbsoluteY (base : Word)
  | oraIndirectX (zz : Byte)
  | oraIndirectY (zz : Byte)
  -- EOR, rule R108
  | eorImmediate (v : Byte)
  | eorZeroPage (zz : Byte)
  | eorZeroPageX (zz : Byte)
  | eorAbsolute (addr : Word)
  | eorAbsoluteX (base : Word)
  | eorAbsoluteY (base : Word)
  | eorIndirectX (zz : Byte)
  | eorIndirectY (zz : Byte)
  -- BIT, rule R110
  | bitZeroPage (zz : Byte)
  | bitAbsolute (addr : Word)
  -- CMP, rule R111
  | cmpImmediate (v : Byte)
  | cmpZeroPage (zz : Byte)
  | cmpZeroPageX (zz : Byte)
  | cmpAbsolute (addr : Word)
  | cmpAbsoluteX (base : Word)
  | cmpAbsoluteY (base : Word)
  | cmpIndirectX (zz : Byte)
  | cmpIndirectY (zz : Byte)
  -- CPX, rule R112
  | cpxImmediate (v : Byte)
  | cpxZeroPage (zz : Byte)
  | cpxAbsolute (addr : Word)
  -- CPY, rule R113
  | cpyImmediate (v : Byte)
  | cpyZeroPage (zz : Byte)
  | cpyAbsolute (addr : Word)
  -- ASL, rule R121
  | aslAccumulator
  | aslZeroPage (zz : Byte)
  | aslZeroPageX (zz : Byte)
  | aslAbsolute (addr : Word)
  | aslAbsoluteX (base : Word)
  -- LSR, rule R122
  | lsrAccumulator
  | lsrZeroPage (zz : Byte)
  | lsrZeroPageX (zz : Byte)
  | lsrAbsolute (addr : Word)
  | lsrAbsoluteX (base : Word)
  -- ROL, rule R123
  | rolAccumulator
  | rolZeroPage (zz : Byte)
  | rolZeroPageX (zz : Byte)
  | rolAbsolute (addr : Word)
  | rolAbsoluteX (base : Word)
  -- ROR, rule R124
  | rorAccumulator
  | rorZeroPage (zz : Byte)
  | rorZeroPageX (zz : Byte)
  | rorAbsolute (addr : Word)
  | rorAbsoluteX (base : Word)
  -- DEC, rule R130
  | decZeroPage (zz : Byte)
  | decZeroPageX (zz : Byte)
  | decAbsolute (addr : Word)
  | decAbsoluteX (base : Word)
  -- DEX, rule R131
  | dex
  -- DEY, rule R132
  | dey
  -- INC, rule R133
  | incZeroPage (zz : Byte)
  | incZeroPageX (zz : Byte)
  | incAbsolute (addr : Word)
  | incAbsoluteX (base : Word)
  -- INX, rule R134
  | inx
  -- INY, rule R135
  | iny
  -- BCC, rule R141
  | bcc (rr : Byte)
  -- BCS, rule R142
  | bcs (rr : Byte)
  -- BEQ, rule R143
  | beq (rr : Byte)
  -- BMI, rule R144
  | bmi (rr : Byte)
  -- BNE, rule R145
  | bne (rr : Byte)
  -- BPL, rule R146
  | bpl (rr : Byte)
  -- BVC, rule R147
  | bvc (rr : Byte)
  -- BVS, rule R148
  | bvs (rr : Byte)
  -- JMP, rule R149
  | jmpAbsolute (addr : Word)
  | jmpIndirect (ptr : Word)
  -- JSR, rule R150
  | jsr (addr : Word)
  -- RTS, rule R152
  | rts
  -- RTI, rule R153
  | rti
  -- BRK, rule R155
  | brk
  -- LDA, rule R160
  | ldaImmediate (v : Byte)
  | ldaZeroPage (zz : Byte)
  | ldaZeroPageX (zz : Byte)
  | ldaAbsolute (addr : Word)
  | ldaAbsoluteX (base : Word)
  | ldaAbsoluteY (base : Word)
  | ldaIndirectX (zz : Byte)
  | ldaIndirectY (zz : Byte)
  -- LDX, rule R161
  | ldxImmediate (v : Byte)
  | ldxZeroPage (zz : Byte)
  | ldxZeroPageY (zz : Byte)
  | ldxAbsolute (addr : Word)
  | ldxAbsoluteY (base : Word)
  -- LDY, rule R162
  | ldyImmediate (v : Byte)
  | ldyZeroPage (zz : Byte)
  | ldyZeroPageX (zz : Byte)
  | ldyAbsolute (addr : Word)
  | ldyAbsoluteX (base : Word)
  -- STA, rule R163
  | staZeroPage (zz : Byte)
  | staZeroPageX (zz : Byte)
  | staAbsolute (addr : Word)
  | staAbsoluteX (base : Word)
  | staAbsoluteY (base : Word)
  | staIndirectX (zz : Byte)
  | staIndirectY (zz : Byte)
  -- STX, rule R164
  | stxZeroPage (zz : Byte)
  | stxZeroPageY (zz : Byte)
  | stxAbsolute (addr : Word)
  -- STY, rule R165
  | styZeroPage (zz : Byte)
  | styZeroPageX (zz : Byte)
  | styAbsolute (addr : Word)
  -- PHA, rule R170
  | pha
  -- PHP, rule R171
  | php
  -- PLA, rule R172
  | pla
  -- PLP, rule R173
  | plp
  -- SEC, rule R181
  | sec
  -- SED, rule R182
  | sed
  -- SEI, rule R183
  | sei
  -- CLC, rule R184
  | clc
  -- CLD, rule R185
  | cld
  -- CLI, rule R186
  | cli
  -- CLV, rule R187
  | clv
  -- TAX, rule R188
  | tax
  -- TAY, rule R189
  | tay
  -- TSX, rule R190
  | tsx
  -- TXA, rule R191
  | txa
  -- TXS, rule R192
  | txs
  -- TYA, rule R193
  | tya
  -- NOP, rule R194
  | nop
deriving DecidableEq, Repr

/-- The mnemonic of an instruction's row. -/
def Instr.mnemonic : Instr → Mnemonic
  | .adcImmediate _ | .adcZeroPage _ | .adcZeroPageX _ | .adcAbsolute _ | .adcAbsoluteX _ | .adcAbsoluteY _ | .adcIndirectX _ | .adcIndirectY _ => .adc
  | .sbcImmediate _ | .sbcZeroPage _ | .sbcZeroPageX _ | .sbcAbsolute _ | .sbcAbsoluteX _ | .sbcAbsoluteY _ | .sbcIndirectX _ | .sbcIndirectY _ => .sbc
  | .andImmediate _ | .andZeroPage _ | .andZeroPageX _ | .andAbsolute _ | .andAbsoluteX _ | .andAbsoluteY _ | .andIndirectX _ | .andIndirectY _ => .and
  | .oraImmediate _ | .oraZeroPage _ | .oraZeroPageX _ | .oraAbsolute _ | .oraAbsoluteX _ | .oraAbsoluteY _ | .oraIndirectX _ | .oraIndirectY _ => .ora
  | .eorImmediate _ | .eorZeroPage _ | .eorZeroPageX _ | .eorAbsolute _ | .eorAbsoluteX _ | .eorAbsoluteY _ | .eorIndirectX _ | .eorIndirectY _ => .eor
  | .bitZeroPage _ | .bitAbsolute _ => .bit
  | .cmpImmediate _ | .cmpZeroPage _ | .cmpZeroPageX _ | .cmpAbsolute _ | .cmpAbsoluteX _ | .cmpAbsoluteY _ | .cmpIndirectX _ | .cmpIndirectY _ => .cmp
  | .cpxImmediate _ | .cpxZeroPage _ | .cpxAbsolute _ => .cpx
  | .cpyImmediate _ | .cpyZeroPage _ | .cpyAbsolute _ => .cpy
  | .aslAccumulator | .aslZeroPage _ | .aslZeroPageX _ | .aslAbsolute _ | .aslAbsoluteX _ => .asl
  | .lsrAccumulator | .lsrZeroPage _ | .lsrZeroPageX _ | .lsrAbsolute _ | .lsrAbsoluteX _ => .lsr
  | .rolAccumulator | .rolZeroPage _ | .rolZeroPageX _ | .rolAbsolute _ | .rolAbsoluteX _ => .rol
  | .rorAccumulator | .rorZeroPage _ | .rorZeroPageX _ | .rorAbsolute _ | .rorAbsoluteX _ => .ror
  | .decZeroPage _ | .decZeroPageX _ | .decAbsolute _ | .decAbsoluteX _ => .dec
  | .dex => .dex
  | .dey => .dey
  | .incZeroPage _ | .incZeroPageX _ | .incAbsolute _ | .incAbsoluteX _ => .inc
  | .inx => .inx
  | .iny => .iny
  | .bcc _ => .bcc
  | .bcs _ => .bcs
  | .beq _ => .beq
  | .bmi _ => .bmi
  | .bne _ => .bne
  | .bpl _ => .bpl
  | .bvc _ => .bvc
  | .bvs _ => .bvs
  | .jmpAbsolute _ | .jmpIndirect _ => .jmp
  | .jsr _ => .jsr
  | .rts => .rts
  | .rti => .rti
  | .brk => .brk
  | .ldaImmediate _ | .ldaZeroPage _ | .ldaZeroPageX _ | .ldaAbsolute _ | .ldaAbsoluteX _ | .ldaAbsoluteY _ | .ldaIndirectX _ | .ldaIndirectY _ => .lda
  | .ldxImmediate _ | .ldxZeroPage _ | .ldxZeroPageY _ | .ldxAbsolute _ | .ldxAbsoluteY _ => .ldx
  | .ldyImmediate _ | .ldyZeroPage _ | .ldyZeroPageX _ | .ldyAbsolute _ | .ldyAbsoluteX _ => .ldy
  | .staZeroPage _ | .staZeroPageX _ | .staAbsolute _ | .staAbsoluteX _ | .staAbsoluteY _ | .staIndirectX _ | .staIndirectY _ => .sta
  | .stxZeroPage _ | .stxZeroPageY _ | .stxAbsolute _ => .stx
  | .styZeroPage _ | .styZeroPageX _ | .styAbsolute _ => .sty
  | .pha => .pha
  | .php => .php
  | .pla => .pla
  | .plp => .plp
  | .sec => .sec
  | .sed => .sed
  | .sei => .sei
  | .clc => .clc
  | .cld => .cld
  | .cli => .cli
  | .clv => .clv
  | .tax => .tax
  | .tay => .tay
  | .tsx => .tsx
  | .txa => .txa
  | .txs => .txs
  | .tya => .tya
  | .nop => .nop

/-- The operand of an instruction: its row's mode and the operand bytes. -/
def Instr.operand : Instr → Operand
  | .adcImmediate v => .immediate v
  | .adcZeroPage zz => .zeroPage zz
  | .adcZeroPageX zz => .zeroPageX zz
  | .adcAbsolute addr => .absolute addr
  | .adcAbsoluteX base => .absoluteX base
  | .adcAbsoluteY base => .absoluteY base
  | .adcIndirectX zz => .indirectX zz
  | .adcIndirectY zz => .indirectY zz
  | .sbcImmediate v => .immediate v
  | .sbcZeroPage zz => .zeroPage zz
  | .sbcZeroPageX zz => .zeroPageX zz
  | .sbcAbsolute addr => .absolute addr
  | .sbcAbsoluteX base => .absoluteX base
  | .sbcAbsoluteY base => .absoluteY base
  | .sbcIndirectX zz => .indirectX zz
  | .sbcIndirectY zz => .indirectY zz
  | .andImmediate v => .immediate v
  | .andZeroPage zz => .zeroPage zz
  | .andZeroPageX zz => .zeroPageX zz
  | .andAbsolute addr => .absolute addr
  | .andAbsoluteX base => .absoluteX base
  | .andAbsoluteY base => .absoluteY base
  | .andIndirectX zz => .indirectX zz
  | .andIndirectY zz => .indirectY zz
  | .oraImmediate v => .immediate v
  | .oraZeroPage zz => .zeroPage zz
  | .oraZeroPageX zz => .zeroPageX zz
  | .oraAbsolute addr => .absolute addr
  | .oraAbsoluteX base => .absoluteX base
  | .oraAbsoluteY base => .absoluteY base
  | .oraIndirectX zz => .indirectX zz
  | .oraIndirectY zz => .indirectY zz
  | .eorImmediate v => .immediate v
  | .eorZeroPage zz => .zeroPage zz
  | .eorZeroPageX zz => .zeroPageX zz
  | .eorAbsolute addr => .absolute addr
  | .eorAbsoluteX base => .absoluteX base
  | .eorAbsoluteY base => .absoluteY base
  | .eorIndirectX zz => .indirectX zz
  | .eorIndirectY zz => .indirectY zz
  | .bitZeroPage zz => .zeroPage zz
  | .bitAbsolute addr => .absolute addr
  | .cmpImmediate v => .immediate v
  | .cmpZeroPage zz => .zeroPage zz
  | .cmpZeroPageX zz => .zeroPageX zz
  | .cmpAbsolute addr => .absolute addr
  | .cmpAbsoluteX base => .absoluteX base
  | .cmpAbsoluteY base => .absoluteY base
  | .cmpIndirectX zz => .indirectX zz
  | .cmpIndirectY zz => .indirectY zz
  | .cpxImmediate v => .immediate v
  | .cpxZeroPage zz => .zeroPage zz
  | .cpxAbsolute addr => .absolute addr
  | .cpyImmediate v => .immediate v
  | .cpyZeroPage zz => .zeroPage zz
  | .cpyAbsolute addr => .absolute addr
  | .aslAccumulator => .accumulator
  | .aslZeroPage zz => .zeroPage zz
  | .aslZeroPageX zz => .zeroPageX zz
  | .aslAbsolute addr => .absolute addr
  | .aslAbsoluteX base => .absoluteX base
  | .lsrAccumulator => .accumulator
  | .lsrZeroPage zz => .zeroPage zz
  | .lsrZeroPageX zz => .zeroPageX zz
  | .lsrAbsolute addr => .absolute addr
  | .lsrAbsoluteX base => .absoluteX base
  | .rolAccumulator => .accumulator
  | .rolZeroPage zz => .zeroPage zz
  | .rolZeroPageX zz => .zeroPageX zz
  | .rolAbsolute addr => .absolute addr
  | .rolAbsoluteX base => .absoluteX base
  | .rorAccumulator => .accumulator
  | .rorZeroPage zz => .zeroPage zz
  | .rorZeroPageX zz => .zeroPageX zz
  | .rorAbsolute addr => .absolute addr
  | .rorAbsoluteX base => .absoluteX base
  | .decZeroPage zz => .zeroPage zz
  | .decZeroPageX zz => .zeroPageX zz
  | .decAbsolute addr => .absolute addr
  | .decAbsoluteX base => .absoluteX base
  | .dex => .implied
  | .dey => .implied
  | .incZeroPage zz => .zeroPage zz
  | .incZeroPageX zz => .zeroPageX zz
  | .incAbsolute addr => .absolute addr
  | .incAbsoluteX base => .absoluteX base
  | .inx => .implied
  | .iny => .implied
  | .bcc rr => .relative rr
  | .bcs rr => .relative rr
  | .beq rr => .relative rr
  | .bmi rr => .relative rr
  | .bne rr => .relative rr
  | .bpl rr => .relative rr
  | .bvc rr => .relative rr
  | .bvs rr => .relative rr
  | .jmpAbsolute addr => .absolute addr
  | .jmpIndirect ptr => .indirect ptr
  | .jsr addr => .absolute addr
  | .rts => .implied
  | .rti => .implied
  | .brk => .implied
  | .ldaImmediate v => .immediate v
  | .ldaZeroPage zz => .zeroPage zz
  | .ldaZeroPageX zz => .zeroPageX zz
  | .ldaAbsolute addr => .absolute addr
  | .ldaAbsoluteX base => .absoluteX base
  | .ldaAbsoluteY base => .absoluteY base
  | .ldaIndirectX zz => .indirectX zz
  | .ldaIndirectY zz => .indirectY zz
  | .ldxImmediate v => .immediate v
  | .ldxZeroPage zz => .zeroPage zz
  | .ldxZeroPageY zz => .zeroPageY zz
  | .ldxAbsolute addr => .absolute addr
  | .ldxAbsoluteY base => .absoluteY base
  | .ldyImmediate v => .immediate v
  | .ldyZeroPage zz => .zeroPage zz
  | .ldyZeroPageX zz => .zeroPageX zz
  | .ldyAbsolute addr => .absolute addr
  | .ldyAbsoluteX base => .absoluteX base
  | .staZeroPage zz => .zeroPage zz
  | .staZeroPageX zz => .zeroPageX zz
  | .staAbsolute addr => .absolute addr
  | .staAbsoluteX base => .absoluteX base
  | .staAbsoluteY base => .absoluteY base
  | .staIndirectX zz => .indirectX zz
  | .staIndirectY zz => .indirectY zz
  | .stxZeroPage zz => .zeroPage zz
  | .stxZeroPageY zz => .zeroPageY zz
  | .stxAbsolute addr => .absolute addr
  | .styZeroPage zz => .zeroPage zz
  | .styZeroPageX zz => .zeroPageX zz
  | .styAbsolute addr => .absolute addr
  | .pha => .implied
  | .php => .implied
  | .pla => .implied
  | .plp => .implied
  | .sec => .implied
  | .sed => .implied
  | .sei => .implied
  | .clc => .implied
  | .cld => .implied
  | .cli => .implied
  | .clv => .implied
  | .tax => .implied
  | .tay => .implied
  | .tsx => .implied
  | .txa => .implied
  | .txs => .implied
  | .tya => .implied
  | .nop => .implied

end Sys2Proof
end

