-- ==== Sys2Proof/WellFormed.lean ====
section
/-! DEFINITION. Which mnemonic and mode belong together (30_encoding.md rule R78). Every constructor of Instr is
such a pair; the check is needed for the pairs of a non-default opcode table (rule R80). -/

namespace Sys2Proof

/-- The modes `STANDARD_TABLE` pairs a mnemonic with (30_encoding.md rule R78). -/
def Mnemonic.modes : Mnemonic → List Mode
  | .adc | .sbc | .and | .ora | .eor | .cmp | .lda => [.immediate, .zeroPage, .zeroPageX, .absolute, .absoluteX, .absoluteY, .indirectX, .indirectY]
  | .bit => [.zeroPage, .absolute]
  | .cpx | .cpy => [.immediate, .zeroPage, .absolute]
  | .asl | .lsr | .rol | .ror => [.accumulator, .zeroPage, .zeroPageX, .absolute, .absoluteX]
  | .dec | .inc => [.zeroPage, .zeroPageX, .absolute, .absoluteX]
  | .dex | .dey | .inx | .iny | .rts | .rti | .brk | .pha | .php | .pla | .plp | .sec | .sed | .sei | .clc | .cld | .cli | .clv | .tax | .tay | .tsx | .txa | .txs | .tya | .nop => [.implied]
  | .bcc | .bcs | .beq | .bmi | .bne | .bpl | .bvc | .bvs => [.relative]
  | .jmp => [.absolute, .indirect]
  | .jsr => [.absolute]
  | .ldx => [.immediate, .zeroPage, .zeroPageY, .absolute, .absoluteY]
  | .ldy => [.immediate, .zeroPage, .zeroPageX, .absolute, .absoluteX]
  | .sta => [.zeroPage, .zeroPageX, .absolute, .absoluteX, .absoluteY, .indirectX, .indirectY]
  | .stx => [.zeroPage, .zeroPageY, .absolute]
  | .sty => [.zeroPage, .zeroPageX, .absolute]

/-- A mnemonic and an operand form a pair of `STANDARD_TABLE`. -/
def wellFormedPair (mn : Mnemonic) (op : Operand) : Bool := mn.modes.contains op.mode

/-- An instruction is well formed when its mnemonic and operand are a pair of `STANDARD_TABLE`. -/
def Instr.wellFormed (i : Instr) : Bool := wellFormedPair i.mnemonic i.operand

end Sys2Proof
end

