-- ==== Sys2Proof/Decode.lean ====
section
/-! DEFINITION. The decode dispatcher (30_encoding.md rules R67 to R80), total on any bytes and rejecting by name,
and after it the encoder. The table the decoder reads is the grid of rule R77; the opcodes the encoder writes are
the list of rule R78. -/

namespace Sys2Proof

/-- `hi:lo`, the word of two bytes (00_scope.md rule R15, little-endian in memory by 20_memory.md rule R51). -/
def wordOf (lo hi : Byte) : Word := hi ++ lo

/-- Bits 7 to 0 of a word. -/
def loByte (w : Word) : Byte := w.extractLsb' 0 8

/-- Bits 15 to 8 of a word. -/
def hiByte (w : Word) : Byte := w.extractLsb' 8 8

/-! ### `STANDARD_TABLE`: the grid of rule R77, one list a row, the column its position -/

/-- Opcodes `0x00` to `0x0F`. -/
def tableRow0 : List TableEntry :=
  [some (.brk, .implied), some (.ora, .indirectX), none, none,
   none, some (.ora, .zeroPage), some (.asl, .zeroPage), none,
   some (.php, .implied), some (.ora, .immediate), some (.asl, .accumulator), none,
   none, some (.ora, .absolute), some (.asl, .absolute), none]

/-- Opcodes `0x10` to `0x1F`. -/
def tableRow1 : List TableEntry :=
  [some (.bpl, .relative), some (.ora, .indirectY), none, none,
   none, some (.ora, .zeroPageX), some (.asl, .zeroPageX), none,
   some (.clc, .implied), some (.ora, .absoluteY), none, none,
   none, some (.ora, .absoluteX), some (.asl, .absoluteX), none]

/-- Opcodes `0x20` to `0x2F`. -/
def tableRow2 : List TableEntry :=
  [some (.jsr, .absolute), some (.and, .indirectX), none, none,
   some (.bit, .zeroPage), some (.and, .zeroPage), some (.rol, .zeroPage), none,
   some (.plp, .implied), some (.and, .immediate), some (.rol, .accumulator), none,
   some (.bit, .absolute), some (.and, .absolute), some (.rol, .absolute), none]

/-- Opcodes `0x30` to `0x3F`. -/
def tableRow3 : List TableEntry :=
  [some (.bmi, .relative), some (.and, .indirectY), none, none,
   none, some (.and, .zeroPageX), some (.rol, .zeroPageX), none,
   some (.sec, .implied), some (.and, .absoluteY), none, none,
   none, some (.and, .absoluteX), some (.rol, .absoluteX), none]

/-- Opcodes `0x40` to `0x4F`. -/
def tableRow4 : List TableEntry :=
  [some (.rti, .implied), some (.eor, .indirectX), none, none,
   none, some (.eor, .zeroPage), some (.lsr, .zeroPage), none,
   some (.pha, .implied), some (.eor, .immediate), some (.lsr, .accumulator), none,
   some (.jmp, .absolute), some (.eor, .absolute), some (.lsr, .absolute), none]

/-- Opcodes `0x50` to `0x5F`. -/
def tableRow5 : List TableEntry :=
  [some (.bvc, .relative), some (.eor, .indirectY), none, none,
   none, some (.eor, .zeroPageX), some (.lsr, .zeroPageX), none,
   some (.cli, .implied), some (.eor, .absoluteY), none, none,
   none, some (.eor, .absoluteX), some (.lsr, .absoluteX), none]

/-- Opcodes `0x60` to `0x6F`. -/
def tableRow6 : List TableEntry :=
  [some (.rts, .implied), some (.adc, .indirectX), none, none,
   none, some (.adc, .zeroPage), some (.ror, .zeroPage), none,
   some (.pla, .implied), some (.adc, .immediate), some (.ror, .accumulator), none,
   some (.jmp, .indirect), some (.adc, .absolute), some (.ror, .absolute), none]

/-- Opcodes `0x70` to `0x7F`. -/
def tableRow7 : List TableEntry :=
  [some (.bvs, .relative), some (.adc, .indirectY), none, none,
   none, some (.adc, .zeroPageX), some (.ror, .zeroPageX), none,
   some (.sei, .implied), some (.adc, .absoluteY), none, none,
   none, some (.adc, .absoluteX), some (.ror, .absoluteX), none]

/-- Opcodes `0x80` to `0x8F`. -/
def tableRow8 : List TableEntry :=
  [none, some (.sta, .indirectX), none, none,
   some (.sty, .zeroPage), some (.sta, .zeroPage), some (.stx, .zeroPage), none,
   some (.dey, .implied), none, some (.txa, .implied), none,
   some (.sty, .absolute), some (.sta, .absolute), some (.stx, .absolute), none]

/-- Opcodes `0x90` to `0x9F`. -/
def tableRow9 : List TableEntry :=
  [some (.bcc, .relative), some (.sta, .indirectY), none, none,
   some (.sty, .zeroPageX), some (.sta, .zeroPageX), some (.stx, .zeroPageY), none,
   some (.tya, .implied), some (.sta, .absoluteY), some (.txs, .implied), none,
   none, some (.sta, .absoluteX), none, none]

/-- Opcodes `0xA0` to `0xAF`. -/
def tableRowA : List TableEntry :=
  [some (.ldy, .immediate), some (.lda, .indirectX), some (.ldx, .immediate), none,
   some (.ldy, .zeroPage), some (.lda, .zeroPage), some (.ldx, .zeroPage), none,
   some (.tay, .implied), some (.lda, .immediate), some (.tax, .implied), none,
   some (.ldy, .absolute), some (.lda, .absolute), some (.ldx, .absolute), none]

/-- Opcodes `0xB0` to `0xBF`. -/
def tableRowB : List TableEntry :=
  [some (.bcs, .relative), some (.lda, .indirectY), none, none,
   some (.ldy, .zeroPageX), some (.lda, .zeroPageX), some (.ldx, .zeroPageY), none,
   some (.clv, .implied), some (.lda, .absoluteY), some (.tsx, .implied), none,
   some (.ldy, .absoluteX), some (.lda, .absoluteX), some (.ldx, .absoluteY), none]

/-- Opcodes `0xC0` to `0xCF`. -/
def tableRowC : List TableEntry :=
  [some (.cpy, .immediate), some (.cmp, .indirectX), none, none,
   some (.cpy, .zeroPage), some (.cmp, .zeroPage), some (.dec, .zeroPage), none,
   some (.iny, .implied), some (.cmp, .immediate), some (.dex, .implied), none,
   some (.cpy, .absolute), some (.cmp, .absolute), some (.dec, .absolute), none]

/-- Opcodes `0xD0` to `0xDF`. -/
def tableRowD : List TableEntry :=
  [some (.bne, .relative), some (.cmp, .indirectY), none, none,
   none, some (.cmp, .zeroPageX), some (.dec, .zeroPageX), none,
   some (.cld, .implied), some (.cmp, .absoluteY), none, none,
   none, some (.cmp, .absoluteX), some (.dec, .absoluteX), none]

/-- Opcodes `0xE0` to `0xEF`. -/
def tableRowE : List TableEntry :=
  [some (.cpx, .immediate), some (.sbc, .indirectX), none, none,
   some (.cpx, .zeroPage), some (.sbc, .zeroPage), some (.inc, .zeroPage), none,
   some (.inx, .implied), some (.sbc, .immediate), some (.nop, .implied), none,
   some (.cpx, .absolute), some (.sbc, .absolute), some (.inc, .absolute), none]

/-- Opcodes `0xF0` to `0xFF`. -/
def tableRowF : List TableEntry :=
  [some (.beq, .relative), some (.sbc, .indirectY), none, none,
   none, some (.sbc, .zeroPageX), some (.inc, .zeroPageX), none,
   some (.sed, .implied), some (.sbc, .absoluteY), none, none,
   none, some (.sbc, .absoluteX), some (.inc, .absoluteX), none]

/-- The 256 entries in opcode order. -/
def tableGrid : List TableEntry :=
  tableRow0 ++ tableRow1 ++ tableRow2 ++ tableRow3 ++
  tableRow4 ++ tableRow5 ++ tableRow6 ++ tableRow7 ++
  tableRow8 ++ tableRow9 ++ tableRowA ++ tableRowB ++
  tableRowC ++ tableRowD ++ tableRowE ++ tableRowF

/-- `STANDARD_TABLE` (00_scope.md rule R9): the entry of an opcode byte. -/
def standardTable (b : Byte) : TableEntry := tableGrid.getD b.toNat none

/-- `OPCODE_TABLE` (00_scope.md rule R9, 30_encoding.md rule R72). It depends on the opcode byte alone. -/
def Config.opcodeTable (cfg : Config) (b : Byte) : TableEntry :=
  match cfg.tableChanges.lookup b with
  | some entry => entry
  | none => standardTable b

/-! ### Operands -/

/-- How many operand bytes a mode consumes (30_encoding.md rule R68). -/
def Mode.operandBytes : Mode → Nat
  | .accumulator | .implied => 0
  | .immediate | .zeroPage | .zeroPageX | .zeroPageY | .relative | .indirectX | .indirectY => 1
  | .absolute | .absoluteX | .absoluteY | .indirect => 2

/-- The operand of a mode from the two bytes after the opcode (30_encoding.md rule R68); bytes the mode does not
consume are not looked at. -/
def Mode.operandOf (m : Mode) (b1 b2 : Byte) : Operand :=
  match m with
  | .accumulator => .accumulator
  | .implied => .implied
  | .immediate => .immediate b1
  | .zeroPage => .zeroPage b1
  | .zeroPageX => .zeroPageX b1
  | .zeroPageY => .zeroPageY b1
  | .absolute => .absolute (wordOf b1 b2)
  | .absoluteX => .absoluteX (wordOf b1 b2)
  | .absoluteY => .absoluteY (wordOf b1 b2)
  | .relative => .relative b1
  | .indirect => .indirect (wordOf b1 b2)
  | .indirectX => .indirectX b1
  | .indirectY => .indirectY b1

/-- The operand and the bytes after it; none if a byte is missing. -/
def Mode.takeOperand (m : Mode) (bytes : List Byte) : Option (Operand × List Byte) :=
  if m.operandBytes ≤ bytes.length then
    some (m.operandOf (bytes.getD 0 0) (bytes.getD 1 0), bytes.drop m.operandBytes)
  else none

/-! ### From a pair to the instruction -/

/-- The instruction of a mnemonic and an operand; none for a pair outside `STANDARD_TABLE` (rule R80). -/
def Instr.ofPair (mn : Mnemonic) (op : Operand) : Option Instr :=
  match mn with
  | .adc =>
    match op with
    | .immediate v => some (.adcImmediate v)
    | .zeroPage zz => some (.adcZeroPage zz)
    | .zeroPageX zz => some (.adcZeroPageX zz)
    | .absolute addr => some (.adcAbsolute addr)
    | .absoluteX base => some (.adcAbsoluteX base)
    | .absoluteY base => some (.adcAbsoluteY base)
    | .indirectX zz => some (.adcIndirectX zz)
    | .indirectY zz => some (.adcIndirectY zz)
    | _ => none
  | .sbc =>
    match op with
    | .immediate v => some (.sbcImmediate v)
    | .zeroPage zz => some (.sbcZeroPage zz)
    | .zeroPageX zz => some (.sbcZeroPageX zz)
    | .absolute addr => some (.sbcAbsolute addr)
    | .absoluteX base => some (.sbcAbsoluteX base)
    | .absoluteY base => some (.sbcAbsoluteY base)
    | .indirectX zz => some (.sbcIndirectX zz)
    | .indirectY zz => some (.sbcIndirectY zz)
    | _ => none
  | .and =>
    match op with
    | .immediate v => some (.andImmediate v)
    | .zeroPage zz => some (.andZeroPage zz)
    | .zeroPageX zz => some (.andZeroPageX zz)
    | .absolute addr => some (.andAbsolute addr)
    | .absoluteX base => some (.andAbsoluteX base)
    | .absoluteY base => some (.andAbsoluteY base)
    | .indirectX zz => some (.andIndirectX zz)
    | .indirectY zz => some (.andIndirectY zz)
    | _ => none
  | .ora =>
    match op with
    | .immediate v => some (.oraImmediate v)
    | .zeroPage zz => some (.oraZeroPage zz)
    | .zeroPageX zz => some (.oraZeroPageX zz)
    | .absolute addr => some (.oraAbsolute addr)
    | .absoluteX base => some (.oraAbsoluteX base)
    | .absoluteY base => some (.oraAbsoluteY base)
    | .indirectX zz => some (.oraIndirectX zz)
    | .indirectY zz => some (.oraIndirectY zz)
    | _ => none
  | .eor =>
    match op with
    | .immediate v => some (.eorImmediate v)
    | .zeroPage zz => some (.eorZeroPage zz)
    | .zeroPageX zz => some (.eorZeroPageX zz)
    | .absolute addr => some (.eorAbsolute addr)
    | .absoluteX base => some (.eorAbsoluteX base)
    | .absoluteY base => some (.eorAbsoluteY base)
    | .indirectX zz => some (.eorIndirectX zz)
    | .indirectY zz => some (.eorIndirectY zz)
    | _ => none
  | .bit =>
    match op with
    | .zeroPage zz => some (.bitZeroPage zz)
    | .absolute addr => some (.bitAbsolute addr)
    | _ => none
  | .cmp =>
    match op with
    | .immediate v => some (.cmpImmediate v)
    | .zeroPage zz => some (.cmpZeroPage zz)
    | .zeroPageX zz => some (.cmpZeroPageX zz)
    | .absolute addr => some (.cmpAbsolute addr)
    | .absoluteX base => some (.cmpAbsoluteX base)
    | .absoluteY base => some (.cmpAbsoluteY base)
    | .indirectX zz => some (.cmpIndirectX zz)
    | .indirectY zz => some (.cmpIndirectY zz)
    | _ => none
  | .cpx =>
    match op with
    | .immediate v => some (.cpxImmediate v)
    | .zeroPage zz => some (.cpxZeroPage zz)
    | .absolute addr => some (.cpxAbsolute addr)
    | _ => none
  | .cpy =>
    match op with
    | .immediate v => some (.cpyImmediate v)
    | .zeroPage zz => some (.cpyZeroPage zz)
    | .absolute addr => some (.cpyAbsolute addr)
    | _ => none
  | .asl =>
    match op with
    | .accumulator => some .aslAccumulator
    | .zeroPage zz => some (.aslZeroPage zz)
    | .zeroPageX zz => some (.aslZeroPageX zz)
    | .absolute addr => some (.aslAbsolute addr)
    | .absoluteX base => some (.aslAbsoluteX base)
    | _ => none
  | .lsr =>
    match op with
    | .accumulator => some .lsrAccumulator
    | .zeroPage zz => some (.lsrZeroPage zz)
    | .zeroPageX zz => some (.lsrZeroPageX zz)
    | .absolute addr => some (.lsrAbsolute addr)
    | .absoluteX base => some (.lsrAbsoluteX base)
    | _ => none
  | .rol =>
    match op with
    | .accumulator => some .rolAccumulator
    | .zeroPage zz => some (.rolZeroPage zz)
    | .zeroPageX zz => some (.rolZeroPageX zz)
    | .absolute addr => some (.rolAbsolute addr)
    | .absoluteX base => some (.rolAbsoluteX base)
    | _ => none
  | .ror =>
    match op with
    | .accumulator => some .rorAccumulator
    | .zeroPage zz => some (.rorZeroPage zz)
    | .zeroPageX zz => some (.rorZeroPageX zz)
    | .absolute addr => some (.rorAbsolute addr)
    | .absoluteX base => some (.rorAbsoluteX base)
    | _ => none
  | .dec =>
    match op with
    | .zeroPage zz => some (.decZeroPage zz)
    | .zeroPageX zz => some (.decZeroPageX zz)
    | .absolute addr => some (.decAbsolute addr)
    | .absoluteX base => some (.decAbsoluteX base)
    | _ => none
  | .dex =>
    match op with
    | .implied => some .dex
    | _ => none
  | .dey =>
    match op with
    | .implied => some .dey
    | _ => none
  | .inc =>
    match op with
    | .zeroPage zz => some (.incZeroPage zz)
    | .zeroPageX zz => some (.incZeroPageX zz)
    | .absolute addr => some (.incAbsolute addr)
    | .absoluteX base => some (.incAbsoluteX base)
    | _ => none
  | .inx =>
    match op with
    | .implied => some .inx
    | _ => none
  | .iny =>
    match op with
    | .implied => some .iny
    | _ => none
  | .bcc =>
    match op with
    | .relative rr => some (.bcc rr)
    | _ => none
  | .bcs =>
    match op with
    | .relative rr => some (.bcs rr)
    | _ => none
  | .beq =>
    match op with
    | .relative rr => some (.beq rr)
    | _ => none
  | .bmi =>
    match op with
    | .relative rr => some (.bmi rr)
    | _ => none
  | .bne =>
    match op with
    | .relative rr => some (.bne rr)
    | _ => none
  | .bpl =>
    match op with
    | .relative rr => some (.bpl rr)
    | _ => none
  | .bvc =>
    match op with
    | .relative rr => some (.bvc rr)
    | _ => none
  | .bvs =>
    match op with
    | .relative rr => some (.bvs rr)
    | _ => none
  | .jmp =>
    match op with
    | .absolute addr => some (.jmpAbsolute addr)
    | .indirect ptr => some (.jmpIndirect ptr)
    | _ => none
  | .jsr =>
    match op with
    | .absolute addr => some (.jsr addr)
    | _ => none
  | .rts =>
    match op with
    | .implied => some .rts
    | _ => none
  | .rti =>
    match op with
    | .implied => some .rti
    | _ => none
  | .brk =>
    match op with
    | .implied => some .brk
    | _ => none
  | .lda =>
    match op with
    | .immediate v => some (.ldaImmediate v)
    | .zeroPage zz => some (.ldaZeroPage zz)
    | .zeroPageX zz => some (.ldaZeroPageX zz)
    | .absolute addr => some (.ldaAbsolute addr)
    | .absoluteX base => some (.ldaAbsoluteX base)
    | .absoluteY base => some (.ldaAbsoluteY base)
    | .indirectX zz => some (.ldaIndirectX zz)
    | .indirectY zz => some (.ldaIndirectY zz)
    | _ => none
  | .ldx =>
    match op with
    | .immediate v => some (.ldxImmediate v)
    | .zeroPage zz => some (.ldxZeroPage zz)
    | .zeroPageY zz => some (.ldxZeroPageY zz)
    | .absolute addr => some (.ldxAbsolute addr)
    | .absoluteY base => some (.ldxAbsoluteY base)
    | _ => none
  | .ldy =>
    match op with
    | .immediate v => some (.ldyImmediate v)
    | .zeroPage zz => some (.ldyZeroPage zz)
    | .zeroPageX zz => some (.ldyZeroPageX zz)
    | .absolute addr => some (.ldyAbsolute addr)
    | .absoluteX base => some (.ldyAbsoluteX base)
    | _ => none
  | .sta =>
    match op with
    | .zeroPage zz => some (.staZeroPage zz)
    | .zeroPageX zz => some (.staZeroPageX zz)
    | .absolute addr => some (.staAbsolute addr)
    | .absoluteX base => some (.staAbsoluteX base)
    | .absoluteY base => some (.staAbsoluteY base)
    | .indirectX zz => some (.staIndirectX zz)
    | .indirectY zz => some (.staIndirectY zz)
    | _ => none
  | .stx =>
    match op with
    | .zeroPage zz => some (.stxZeroPage zz)
    | .zeroPageY zz => some (.stxZeroPageY zz)
    | .absolute addr => some (.stxAbsolute addr)
    | _ => none
  | .sty =>
    match op with
    | .zeroPage zz => some (.styZeroPage zz)
    | .zeroPageX zz => some (.styZeroPageX zz)
    | .absolute addr => some (.styAbsolute addr)
    | _ => none
  | .pha =>
    match op with
    | .implied => some .pha
    | _ => none
  | .php =>
    match op with
    | .implied => some .php
    | _ => none
  | .pla =>
    match op with
    | .implied => some .pla
    | _ => none
  | .plp =>
    match op with
    | .implied => some .plp
    | _ => none
  | .sec =>
    match op with
    | .implied => some .sec
    | _ => none
  | .sed =>
    match op with
    | .implied => some .sed
    | _ => none
  | .sei =>
    match op with
    | .implied => some .sei
    | _ => none
  | .clc =>
    match op with
    | .implied => some .clc
    | _ => none
  | .cld =>
    match op with
    | .implied => some .cld
    | _ => none
  | .cli =>
    match op with
    | .implied => some .cli
    | _ => none
  | .clv =>
    match op with
    | .implied => some .clv
    | _ => none
  | .tax =>
    match op with
    | .implied => some .tax
    | _ => none
  | .tay =>
    match op with
    | .implied => some .tay
    | _ => none
  | .tsx =>
    match op with
    | .implied => some .tsx
    | _ => none
  | .txa =>
    match op with
    | .implied => some .txa
    | _ => none
  | .txs =>
    match op with
    | .implied => some .txs
    | _ => none
  | .tya =>
    match op with
    | .implied => some .tya
    | _ => none
  | .nop =>
    match op with
    | .implied => some .nop
    | _ => none

/-! ### Decoding -/

/-- Why bytes are not an instruction. -/
inductive DecodeError where
  /-- There is no byte at all. -/
  | noBytes
  /-- The opcode byte has no entry in the table (30_encoding.md rule R74). -/
  | unknownOpcode (op : Byte)
  /-- The bytes end before the operand does. -/
  | truncated (op : Byte)
  /-- The table pairs the mnemonic with a mode `STANDARD_TABLE` never does (rule R80): no row, so no constructor.
  Only a non-default table gives this; the machine runs such a pair all the same (Machine/Cycle.lean). -/
  | nonStandardPair (mn : Mnemonic) (op : Operand)
deriving DecidableEq, Repr

/-- What the decoder answers: an instruction and the bytes after it, or a rejection by name. -/
inductive Decoded where
  | instr (i : Instr) (rest : List Byte)
  | reject (why : DecodeError)
deriving DecidableEq, Repr

/-- Decode under an opcode table (30_encoding.md rules R67, R68, R72). -/
def decodeWith (cfg : Config) : List Byte → Decoded
  | [] => .reject .noBytes
  | b :: rest =>
    match cfg.opcodeTable b with
    | none => .reject (.unknownOpcode b)
    | some (mn, mode) =>
      match mode.takeOperand rest with
      | none => .reject (.truncated b)
      | some (op, rest') =>
        match Instr.ofPair mn op with
        | some i => .instr i rest'
        | none => .reject (.nonStandardPair mn op)

/-- Decode under `STANDARD_TABLE`. -/
def decode (bytes : List Byte) : Decoded := decodeWith {} bytes

/-- Byte `k` of an instruction's bits, bit 0 the least significant bit of the first byte; bits from `nbits` on
are 0. -/
def tableWordByte (nbits w k : Nat) : Byte := BitVec.ofNat 8 ((w % 2 ^ nbits) / 2 ^ (8 * k))

/-- The instruction the decoder reads from bits `w` (spec/opcode_table.json's numbering). The longest
instruction has three bytes (30_encoding.md rule R68). -/
def decodeTableWord (nbits w : Nat) : Option Instr :=
  match decode [tableWordByte nbits w 0, tableWordByte nbits w 1, tableWordByte nbits w 2] with
  | .instr i _ => some i
  | .reject _ => none

/-! ### Encoding -/

/-- The operand bytes in ascending address order, the low byte of a word first (30_encoding.md rule R68). -/
def Operand.bytes : Operand → List Byte
  | .accumulator | .implied => []
  | .immediate b | .zeroPage b | .zeroPageX b | .zeroPageY b | .relative b | .indirectX b | .indirectY b => [b]
  | .absolute w | .absoluteX w | .absoluteY w | .indirect w => [loByte w, hiByte w]

/-- The opcode byte of an instruction, from the list of 30_encoding.md rule R78. -/
def Instr.opcode : Instr → Byte
  | .adcImmediate _ => 0x69#8
  | .adcZeroPage _ => 0x65#8
  | .adcZeroPageX _ => 0x75#8
  | .adcAbsolute _ => 0x6D#8
  | .adcAbsoluteX _ => 0x7D#8
  | .adcAbsoluteY _ => 0x79#8
  | .adcIndirectX _ => 0x61#8
  | .adcIndirectY _ => 0x71#8
  | .sbcImmediate _ => 0xE9#8
  | .sbcZeroPage _ => 0xE5#8
  | .sbcZeroPageX _ => 0xF5#8
  | .sbcAbsolute _ => 0xED#8
  | .sbcAbsoluteX _ => 0xFD#8
  | .sbcAbsoluteY _ => 0xF9#8
  | .sbcIndirectX _ => 0xE1#8
  | .sbcIndirectY _ => 0xF1#8
  | .andImmediate _ => 0x29#8
  | .andZeroPage _ => 0x25#8
  | .andZeroPageX _ => 0x35#8
  | .andAbsolute _ => 0x2D#8
  | .andAbsoluteX _ => 0x3D#8
  | .andAbsoluteY _ => 0x39#8
  | .andIndirectX _ => 0x21#8
  | .andIndirectY _ => 0x31#8
  | .oraImmediate _ => 0x09#8
  | .oraZeroPage _ => 0x05#8
  | .oraZeroPageX _ => 0x15#8
  | .oraAbsolute _ => 0x0D#8
  | .oraAbsoluteX _ => 0x1D#8
  | .oraAbsoluteY _ => 0x19#8
  | .oraIndirectX _ => 0x01#8
  | .oraIndirectY _ => 0x11#8
  | .eorImmediate _ => 0x49#8
  | .eorZeroPage _ => 0x45#8
  | .eorZeroPageX _ => 0x55#8
  | .eorAbsolute _ => 0x4D#8
  | .eorAbsoluteX _ => 0x5D#8
  | .eorAbsoluteY _ => 0x59#8
  | .eorIndirectX _ => 0x41#8
  | .eorIndirectY _ => 0x51#8
  | .bitZeroPage _ => 0x24#8
  | .bitAbsolute _ => 0x2C#8
  | .cmpImmediate _ => 0xC9#8
  | .cmpZeroPage _ => 0xC5#8
  | .cmpZeroPageX _ => 0xD5#8
  | .cmpAbsolute _ => 0xCD#8
  | .cmpAbsoluteX _ => 0xDD#8
  | .cmpAbsoluteY _ => 0xD9#8
  | .cmpIndirectX _ => 0xC1#8
  | .cmpIndirectY _ => 0xD1#8
  | .cpxImmediate _ => 0xE0#8
  | .cpxZeroPage _ => 0xE4#8
  | .cpxAbsolute _ => 0xEC#8
  | .cpyImmediate _ => 0xC0#8
  | .cpyZeroPage _ => 0xC4#8
  | .cpyAbsolute _ => 0xCC#8
  | .aslAccumulator => 0x0A#8
  | .aslZeroPage _ => 0x06#8
  | .aslZeroPageX _ => 0x16#8
  | .aslAbsolute _ => 0x0E#8
  | .aslAbsoluteX _ => 0x1E#8
  | .lsrAccumulator => 0x4A#8
  | .lsrZeroPage _ => 0x46#8
  | .lsrZeroPageX _ => 0x56#8
  | .lsrAbsolute _ => 0x4E#8
  | .lsrAbsoluteX _ => 0x5E#8
  | .rolAccumulator => 0x2A#8
  | .rolZeroPage _ => 0x26#8
  | .rolZeroPageX _ => 0x36#8
  | .rolAbsolute _ => 0x2E#8
  | .rolAbsoluteX _ => 0x3E#8
  | .rorAccumulator => 0x6A#8
  | .rorZeroPage _ => 0x66#8
  | .rorZeroPageX _ => 0x76#8
  | .rorAbsolute _ => 0x6E#8
  | .rorAbsoluteX _ => 0x7E#8
  | .decZeroPage _ => 0xC6#8
  | .decZeroPageX _ => 0xD6#8
  | .decAbsolute _ => 0xCE#8
  | .decAbsoluteX _ => 0xDE#8
  | .dex => 0xCA#8
  | .dey => 0x88#8
  | .incZeroPage _ => 0xE6#8
  | .incZeroPageX _ => 0xF6#8
  | .incAbsolute _ => 0xEE#8
  | .incAbsoluteX _ => 0xFE#8
  | .inx => 0xE8#8
  | .iny => 0xC8#8
  | .bcc _ => 0x90#8
  | .bcs _ => 0xB0#8
  | .beq _ => 0xF0#8
  | .bmi _ => 0x30#8
  | .bne _ => 0xD0#8
  | .bpl _ => 0x10#8
  | .bvc _ => 0x50#8
  | .bvs _ => 0x70#8
  | .jmpAbsolute _ => 0x4C#8
  | .jmpIndirect _ => 0x6C#8
  | .jsr _ => 0x20#8
  | .rts => 0x60#8
  | .rti => 0x40#8
  | .brk => 0x00#8
  | .ldaImmediate _ => 0xA9#8
  | .ldaZeroPage _ => 0xA5#8
  | .ldaZeroPageX _ => 0xB5#8
  | .ldaAbsolute _ => 0xAD#8
  | .ldaAbsoluteX _ => 0xBD#8
  | .ldaAbsoluteY _ => 0xB9#8
  | .ldaIndirectX _ => 0xA1#8
  | .ldaIndirectY _ => 0xB1#8
  | .ldxImmediate _ => 0xA2#8
  | .ldxZeroPage _ => 0xA6#8
  | .ldxZeroPageY _ => 0xB6#8
  | .ldxAbsolute _ => 0xAE#8
  | .ldxAbsoluteY _ => 0xBE#8
  | .ldyImmediate _ => 0xA0#8
  | .ldyZeroPage _ => 0xA4#8
  | .ldyZeroPageX _ => 0xB4#8
  | .ldyAbsolute _ => 0xAC#8
  | .ldyAbsoluteX _ => 0xBC#8
  | .staZeroPage _ => 0x85#8
  | .staZeroPageX _ => 0x95#8
  | .staAbsolute _ => 0x8D#8
  | .staAbsoluteX _ => 0x9D#8
  | .staAbsoluteY _ => 0x99#8
  | .staIndirectX _ => 0x81#8
  | .staIndirectY _ => 0x91#8
  | .stxZeroPage _ => 0x86#8
  | .stxZeroPageY _ => 0x96#8
  | .stxAbsolute _ => 0x8E#8
  | .styZeroPage _ => 0x84#8
  | .styZeroPageX _ => 0x94#8
  | .styAbsolute _ => 0x8C#8
  | .pha => 0x48#8
  | .php => 0x08#8
  | .pla => 0x68#8
  | .plp => 0x28#8
  | .sec => 0x38#8
  | .sed => 0xF8#8
  | .sei => 0x78#8
  | .clc => 0x18#8
  | .cld => 0xD8#8
  | .cli => 0x58#8
  | .clv => 0xB8#8
  | .tax => 0xAA#8
  | .tay => 0xA8#8
  | .tsx => 0xBA#8
  | .txa => 0x8A#8
  | .txs => 0x9A#8
  | .tya => 0x98#8
  | .nop => 0xEA#8

/-- An instruction's length in bytes: the opcode and its operand bytes (30_encoding.md rules R67, R68). -/
def Instr.length (i : Instr) : Nat := 1 + i.operand.mode.operandBytes

/-- The bytes of an instruction under `STANDARD_TABLE`. -/
def encode (i : Instr) : List Byte := i.opcode :: i.operand.bytes

/-- The least opcode byte a table gives a pair, if it gives one. -/
def Config.opcodeFor (cfg : Config) (mn : Mnemonic) (mode : Mode) : Option Byte :=
  ((List.range 256).map (BitVec.ofNat 8)).find? fun b => cfg.opcodeTable b == some (mn, mode)

/-- The bytes of an instruction under any opcode table; none if the table does not have its pair. -/
def encodeWith (cfg : Config) (i : Instr) : Option (List Byte) :=
  (cfg.opcodeFor i.mnemonic i.operand.mode).map (· :: i.operand.bytes)

end Sys2Proof
end

