-- ==== Sys2Proof/Machine/State.lean ====
section
/-! DEFINITION. The state of the block (10_state.md) as plain data, its reasons to stop, and the state after
construction (70_reset_and_hazards.md rule R220). -/

namespace Sys2Proof.Machine

/-- A flag of `P` that is stored (10_state.md rule R25). The ALWAYS-SET bit has no storage (rule R26). -/
inductive Flag where
  /-- CARRY, bit 0. -/
  | c
  /-- ZERO, bit 1. -/
  | z
  /-- INTERRUPT-DISABLE, bit 2. -/
  | i
  /-- DECIMAL, bit 3. -/
  | d
  /-- BREAK, bit 4. -/
  | b
  /-- OVERFLOW, bit 6. -/
  | v
  /-- NEGATIVE, bit 7. -/
  | n
deriving DecidableEq, Repr

/-- The status register `P` as its seven stored flags (10_state.md rules R25, R26). -/
structure Status where
  c : Bool
  z : Bool
  i : Bool
  d : Bool
  b : Bool
  v : Bool
  n : Bool
deriving DecidableEq, Repr

/-- Memory as the bytes that differ from the unlisted byte, by rising address. -/
abbrev Memory := List Host.Cell

/-- The register file (10_state.md rule R20), the halted bit (rule R27), memory (20_memory.md rule R45) and the
run's parameters (00_scope.md rules R9, R11; notes/assumptions/3.md). -/
structure State where
  /-- The accumulator `A` (rule R21). -/
  a : Byte
  /-- The index register `X` (rule R22). -/
  x : Byte
  /-- The index register `Y` (rule R22). -/
  y : Byte
  /-- The stack pointer `S` (rule R24). -/
  sp : Byte
  /-- The program counter `PC` (rule R23). -/
  pc : Word
  /-- The status register `P` (rule R25). -/
  p : Status
  /-- The block has raised the fatal fault (rule R27). -/
  halted : Bool
  /-- The 65536 bytes of memory (20_memory.md rule R45). -/
  mem : Memory
  /-- The run's parameters, the model's own field: no step changes it. -/
  cfg : Config
deriving DecidableEq, Repr

/-- Why the machine stops. -/
inductive Fault where
  /-- The fetched opcode byte `op`, at address `pc`, has no entry in the opcode table (60_exceptions.md rule R200).
  Raised by the fetch in Machine/Cycle.lean. Safe: the spec's own fatal fault. -/
  | unknownOpcode (op : Byte) (pc : Word)
  /-- A step was asked of a halted block, which has none (60_exceptions.md rule R201, notes/assumptions/2.md).
  Raised by the step in Machine/Cycle.lean. Safe: the machine stays stopped. -/
  | halted
deriving DecidableEq, Repr

/-- Why an instruction has no meaning. -/
inductive Refusal where
  /-- No meaning has been written for the instruction. Raised by no arm of exec in this model. Safe. -/
  | notModelled (mnemonic : String)
deriving DecidableEq, Repr

/-- The block right after construction over memory with nothing listed (10_state.md rule R36,
70_reset_and_hazards.md rule R220): every register zero, every stored flag clear, the parameters at their
defaults. -/
def State.reset : State where
  a := 0x00
  x := 0x00
  y := 0x00
  sp := 0x00
  pc := 0x0000
  p := { c := false, z := false, i := false, d := false, b := false, v := false, n := false }
  halted := false
  mem := []
  cfg := {}

end Sys2Proof.Machine
end

