-- ==== Sys2Proof/Machine/Flags.lean ====
section
/-! DEFINITION. The flag update logic (10_state.md rules R25 to R32) and the ALU's functions on bytes
(41_alu.md rules R101 and R103, 42_shift_rotate.md rules R121 to R124). -/

namespace Sys2Proof.Machine

/-- `contains(flag)` (10_state.md rule R29). -/
def Status.get (p : Status) : Flag → Bool
  | .c => p.c
  | .z => p.z
  | .i => p.i
  | .d => p.d
  | .b => p.b
  | .v => p.v
  | .n => p.n

/-- `set(flag, b)`: exactly that flag changes (10_state.md rule R28). -/
def Status.set (p : Status) (f : Flag) (value : Bool) : Status :=
  match f with
  | .c => { p with c := value }
  | .z => { p with z := value }
  | .i => { p with i := value }
  | .d => { p with d := value }
  | .b => { p with b := value }
  | .v => { p with v := value }
  | .n => { p with n := value }

/-- A byte whose only bit that may be set is bit `k`. -/
def bitAt (value : Bool) (k : Nat) : Byte := (BitVec.ofBool value).setWidth 8 <<< k

/-- `pack(P)`, with the ALWAYS-SET bit 5 (10_state.md rule R26). -/
def pack (p : Status) : Byte :=
  bitAt p.n 7 ||| bitAt p.v 6 ||| bitAt true 5 ||| bitAt p.b 4 |||
    bitAt p.d 3 ||| bitAt p.i 2 ||| bitAt p.z 1 ||| bitAt p.c 0

/-- `unpack(b)`: every stored flag takes its bit, bit 5 is dropped (10_state.md rule R32). -/
def unpack (b : Byte) : Status :=
  { c := b[0], z := b[1], i := b[2], d := b[3], b := b[4], v := b[6], n := b[7] }

/-- `setZN(v)`, the shared flag rule (10_state.md rule R30). -/
def setZN (v : Byte) (p : Status) : Status := (p.set .z (v == 0)).set .n v[7]

/-- The adder's three outputs. -/
structure Sum where
  result : Byte
  carry : Bool
  overflow : Bool
deriving DecidableEq, Repr

/-- `add8(a, b, cin)`: the exact sum, narrowed (41_alu.md rule R101). -/
def add8 (a b : Byte) (cin : Bool) : Sum :=
  let sum := a.toNat + b.toNat + cin.toNat
  let r := BitVec.ofNat 8 sum
  { result := r, carry := decide (256 ≤ sum), overflow := a[7] == b[7] && r[7] != a[7] }

/-- The flags ADC and SBC write from the adder's outputs (41_alu.md rules R104, R105). -/
def setSumFlags (sum : Sum) (p : Status) : Status :=
  setZN sum.result ((p.set .c sum.carry).set .v sum.overflow)

/-- `cmp8(r, m)`: the difference, and the carry from the unsigned comparison (41_alu.md rule R103). -/
def cmp8 (r m : Byte) : Byte × Bool := (r + (~~~m + 1), decide (m.toNat ≤ r.toNat))

/-- The flags a compare writes (41_alu.md rules R111 to R113). -/
def setCompareFlags (r m : Byte) (p : Status) : Status :=
  setZN (cmp8 r m).1 (p.set .c (cmp8 r m).2)

/-- The flags BIT writes: N and V from the operand, Z from the and (41_alu.md rule R110). -/
def setBitFlags (a m : Byte) (p : Status) : Status :=
  ((p.set .n m[7]).set .v m[6]).set .z (m &&& a == 0)

/-- ASL's result and the bit shifted out (42_shift_rotate.md rule R121). -/
def asl8 (v : Byte) : Byte × Bool := (v <<< 1, v[7])

/-- LSR's result and the bit shifted out (42_shift_rotate.md rule R122). -/
def lsr8 (v : Byte) : Byte × Bool := (v >>> 1, v[0])

/-- ROL's result and the bit shifted out, from the old carry (42_shift_rotate.md rule R123). -/
def rol8 (v : Byte) (carry : Bool) : Byte × Bool := ((v <<< 1) ||| bitAt carry 0, v[7])

/-- ROR's result and the bit shifted out, from the old carry (42_shift_rotate.md rule R124). -/
def ror8 (v : Byte) (carry : Bool) : Byte × Bool := ((v >>> 1) ||| bitAt carry 7, v[0])

/-- The flags a shift writes from its result and the bit shifted out (42_shift_rotate.md). -/
def setShiftFlags (out : Byte × Bool) (p : Status) : Status := setZN out.1 (p.set .c out.2)

end Sys2Proof.Machine
end

