-- ==== Sys2Proof/Machine/Ops.lean ====
section
/-! DEFINITION. The named operations over memory and registers: memory access (20_memory.md), the stack helpers,
entering the BRK trap and returning from it (44_control_transfer.md rules R153, R154), and raising the fatal
fault (60_exceptions.md rule R200). -/

namespace Sys2Proof.Machine

/-- What an instruction's meaning answers. -/
abbrev Result := Host.Outcome State Fault Refusal

/-! ### Memory -/

/-- What an address not listed in memory reads as: the model's choice, since the spec leaves the launch contents
to the host (70_reset_and_hazards.md rule R221). DESIGN CHOICE, unsafe: notes/assumptions/1.md. -/
def Memory.unlisted : Byte := 0x00

/-- Addresses strictly rising from `lo` and below 65536, and no byte equal to the unlisted one. -/
def Memory.wfFrom : Nat → Memory → Bool
  | _, [] => true
  | lo, (a, v) :: rest =>
    decide (lo ≤ a) && decide (a < 65536) && v != Memory.unlisted && Memory.wfFrom (a + 1) rest

/-- The canonical form of memory. -/
def Memory.wf (m : Memory) : Bool := Memory.wfFrom 0 m

/-- The byte at an address (00_scope.md rule R10). -/
def Memory.read (m : Memory) (a : Nat) : Byte :=
  match m with
  | [] => Memory.unlisted
  | (b, v) :: rest => if b = a then v else Memory.read rest a

/-- List a byte before the first higher address. -/
def Memory.insert (m : Memory) (a : Nat) (v : Byte) : Memory :=
  match m with
  | [] => [(a, v)]
  | (b, w) :: rest => if a < b then (a, v) :: (b, w) :: rest else (b, w) :: Memory.insert rest a v

/-- Memory without an entry at an address. -/
def Memory.erase (m : Memory) (a : Nat) : Memory :=
  match m with
  | [] => []
  | (b, w) :: rest => if b = a then Memory.erase rest a else (b, w) :: Memory.erase rest a

/-- Memory after a byte is written; writing the unlisted byte unlists the address. -/
def Memory.write (m : Memory) (a : Nat) (v : Byte) : Memory :=
  if v = Memory.unlisted then m.erase a else (m.erase a).insert a v

/-! ### Registers -/

def State.setA (s : State) (v : Byte) : State := { s with a := v }
def State.setX (s : State) (v : Byte) : State := { s with x := v }
def State.setY (s : State) (v : Byte) : State := { s with y := v }
def State.setSP (s : State) (v : Byte) : State := { s with sp := v }
def State.setPC (s : State) (w : Word) : State := { s with pc := w }
def State.setP (s : State) (p : Status) : State := { s with p := p }
def State.setHalted (s : State) (b : Bool) : State := { s with halted := b }
def State.setMem (s : State) (m : Memory) : State := { s with mem := m }

/-! ### Memory accesses of the block -/

/-- `MemRead(addr, 1)` (20_memory.md rule R46): any address is valid. -/
def State.read (s : State) (addr : Word) : Byte := s.mem.read addr.toNat

/-- `MemWrite(addr, 1, v)` (20_memory.md rule R46): any address is valid. -/
def State.write (s : State) (addr : Word) (v : Byte) : State := s.setMem (s.mem.write addr.toNat v)

/-- `MemRead(addr, 2)`: the low byte at the address, the high byte after it, wrapping at 16 bits only
(20_memory.md rule R48). -/
def State.readWord (s : State) (addr : Word) : Word := wordOf (s.read addr) (s.read (addr + 1))

/-- `MemWrite(addr, 2, v)` (20_memory.md rule R49); no instruction uses it. -/
def State.writeWord (s : State) (addr : Word) (w : Word) : State :=
  (s.write addr (loByte w)).write (addr + 1) (hiByte w)

/-- `zext_16` (00_scope.md rule R15). -/
def zext16 (b : Byte) : Word := b.setWidth 16

/-- `sext_16` (00_scope.md rule R15). -/
def sext16 (b : Byte) : Word := b.signExtend 16

/-! ### The stack -/

/-- The stack byte a stack pointer addresses (10_state.md rule R24). -/
def stackAddress (sp : Byte) : Word := 0x0100 + zext16 sp

/-- `push8(v)`: write, then decrement `S` (20_memory.md rule R52). -/
def push8 (v : Byte) (s : State) : State := (s.write (stackAddress s.sp) v).setSP (s.sp - 1)

/-- `pull8()`: increment `S`, then read (20_memory.md rule R53). -/
def pull8 (s : State) : Byte × State := (s.read (stackAddress (s.sp + 1)), s.setSP (s.sp + 1))

/-- `push16(w)`: the high byte first (20_memory.md rule R54). -/
def push16 (w : Word) (s : State) : State := push8 (loByte w) (push8 (hiByte w) s)

/-- `pull16()`: the low byte first (20_memory.md rule R55). -/
def pull16 (s : State) : Word × State :=
  let lo := pull8 s
  let hi := pull8 lo.2
  (wordOf lo.1 hi.1, hi.2)

/-- `P <- unpack(pull8())` (10_state.md rule R32): PLP, RTI, and RTS under its switch. -/
def pullStatus (s : State) : State :=
  let pulled := pull8 s
  pulled.2.setP (unpack pulled.1)

/-! ### The trap, the return from it, and the fatal fault -/

/-- The address of the BRK vector (20_memory.md rule R60). -/
def brkVector : Word := 0xFFFE

/-- `brk_trap()` on a state whose `PC` is the address of BRK + 1: the return address and the status with BREAK
set are pushed, I is set under its switch, and control goes to the vector (44_control_transfer.md rule R154). -/
def brkTrap (s : State) : State :=
  let saved := push8 (pack s.p ||| 0x10) (push16 s.pc s)
  let masked := if saved.cfg.brkSetsI then saved.setP (saved.p.set .i true) else saved
  masked.setPC (masked.readWord brkVector)

/-- The return from the trap: the status, then `PC`, from the stack (44_control_transfer.md rule R153). -/
def returnFromTrap (s : State) : State :=
  let pulled := pull16 (pullStatus s)
  pulled.2.setPC pulled.1

/-- `raise UnknownOpcode(op, pc)`: the fault, and the state it leaves, halted and otherwise as it was
(60_exceptions.md rule R200). -/
def raiseUnknownOpcode (op : Byte) (s : State) : Fault × State :=
  (.unknownOpcode op s.pc, s.setHalted true)

end Sys2Proof.Machine
end

