-- ==== Sys2Proof/Machine/Operands.lean ====
section
/-! DEFINITION. The addressing resolver (40_addressing.md rules R85 to R99). Every function here is applied to the
state at the start of the step, whose `PC` is the address of the opcode byte. An operand carries the bytes fetched
after the opcode, so resolving reads only the pointers in memory (notes/assumptions/7.md). -/

namespace Sys2Proof.Machine

/-- The address of the next instruction: past the opcode and the operand bytes (30_encoding.md rules R70, R71). -/
def nextPC (op : Operand) (s : State) : Word := s.pc + 1 + BitVec.ofNat 16 op.mode.operandBytes

/-- The zero-page address of an indexed zero-page operand, the sum modulo 2^8 (40_addressing.md rule R90). -/
def zeroPageIndexed (zz index : Byte) : Word := zext16 (zz + index)

/-- The effective address `ea` of each mode (40_addressing.md rules R86 to R98). -/
def effectiveAddress (op : Operand) (s : State) : Word :=
  match op with
  | .accumulator => 0x0000
  | .implied => 0x0000
  | .immediate _ => s.pc + 1
  | .zeroPage zz => zext16 zz
  | .zeroPageX zz => zeroPageIndexed zz s.x
  | .zeroPageY zz => zeroPageIndexed zz s.y
  | .absolute addr => addr
  | .absoluteX base => base + zext16 s.x
  | .absoluteY base => base + zext16 s.y
  | .relative rr => s.pc + 2 + sext16 rr
  | .indirect ptr => s.readWord ptr
  | .indirectX zz => s.readWord (zeroPageIndexed zz s.x)
  | .indirectY zz => s.readWord (zext16 zz) + zext16 s.y

/-- The state after resolving: `PC` is past the instruction and nothing else has changed
(40_addressing.md rule R85). -/
def pastInstruction (op : Operand) (s : State) : State := s.setPC (nextPC op s)

/-- `resolve(mode)`: the effective address and the state after it (40_addressing.md rule R85). -/
def resolve (op : Operand) (s : State) : Word × State := (effectiveAddress op s, pastInstruction op s)

/-- `M = MemRead(ea, 1)` (41_alu.md rule R109). An Immediate operand is the byte the instruction carries, which is
the byte at its `ea` (notes/assumptions/7.md). -/
def operandByte (op : Operand) (s : State) : Byte :=
  match op with
  | .immediate v => v
  | other => s.read (effectiveAddress other s)

end Sys2Proof.Machine
end

