-- ==== Sys2Proof/Machine/Alu.lean ====
section
/-! DEFINITION. The adder, logic, compare and BIT instructions (41_alu.md).
First the handler of each mnemonic, on any operand (30_encoding.md rule R73), applied to the state at the start of
the step; then the meaning of each row of the opcode table, its handler on the row's operand. -/

namespace Sys2Proof.Machine

/-- Load the accumulator with a result and set Z and N from it. -/
def setAccumulator (v : Byte) (s : State) : State := (s.setA v).setP (setZN v s.p)

/-- ADC: `add8(A, M, C)` into `A` (rule R104). -/
def runAdc (op : Operand) (s : State) : State :=
  let sum := add8 s.a (operandByte op s) s.p.c
  ((pastInstruction op s).setA sum.result).setP (setSumFlags sum s.p)

/-- SBC: `add8(A, ~M, C)` into `A` (rule R105). -/
def runSbc (op : Operand) (s : State) : State :=
  let sum := add8 s.a (~~~ operandByte op s) s.p.c
  ((pastInstruction op s).setA sum.result).setP (setSumFlags sum s.p)

/-- AND into `A` (rule R106). -/
def runAnd (op : Operand) (s : State) : State :=
  setAccumulator (s.a &&& operandByte op s) (pastInstruction op s)

/-- ORA into `A` (rule R107). -/
def runOra (op : Operand) (s : State) : State :=
  setAccumulator (s.a ||| operandByte op s) (pastInstruction op s)

/-- EOR into `A` (rule R108). -/
def runEor (op : Operand) (s : State) : State :=
  setAccumulator (s.a ^^^ operandByte op s) (pastInstruction op s)

/-- BIT: flags only (rule R110). -/
def runBit (op : Operand) (s : State) : State :=
  (pastInstruction op s).setP (setBitFlags s.a (operandByte op s) s.p)

/-- CMP: flags only, from `A` (rule R111). -/
def runCmp (op : Operand) (s : State) : State :=
  (pastInstruction op s).setP (setCompareFlags s.a (operandByte op s) s.p)

/-- CPX: flags only, from `X` (rule R112). -/
def runCpx (op : Operand) (s : State) : State :=
  (pastInstruction op s).setP (setCompareFlags s.x (operandByte op s) s.p)

/-- CPY: flags only, from `Y` (rule R113). -/
def runCpy (op : Operand) (s : State) : State :=
  (pastInstruction op s).setP (setCompareFlags s.y (operandByte op s) s.p)

/-! ### The rows of the opcode table -/

/-- ADC Immediate, `0x69` (rule R104). -/
def execAdcImmediate (v : Byte) (s : State) : Result := .next (runAdc (.immediate v) s)

/-- ADC ZeroPage, `0x65` (rule R104). -/
def execAdcZeroPage (zz : Byte) (s : State) : Result := .next (runAdc (.zeroPage zz) s)

/-- ADC ZeroPageX, `0x75` (rule R104). -/
def execAdcZeroPageX (zz : Byte) (s : State) : Result := .next (runAdc (.zeroPageX zz) s)

/-- ADC Absolute, `0x6D` (rule R104). -/
def execAdcAbsolute (addr : Word) (s : State) : Result := .next (runAdc (.absolute addr) s)

/-- ADC AbsoluteX, `0x7D` (rule R104). -/
def execAdcAbsoluteX (base : Word) (s : State) : Result := .next (runAdc (.absoluteX base) s)

/-- ADC AbsoluteY, `0x79` (rule R104). -/
def execAdcAbsoluteY (base : Word) (s : State) : Result := .next (runAdc (.absoluteY base) s)

/-- ADC IndirectX, `0x61` (rule R104). -/
def execAdcIndirectX (zz : Byte) (s : State) : Result := .next (runAdc (.indirectX zz) s)

/-- ADC IndirectY, `0x71` (rule R104). -/
def execAdcIndirectY (zz : Byte) (s : State) : Result := .next (runAdc (.indirectY zz) s)

/-- SBC Immediate, `0xE9` (rule R105). -/
def execSbcImmediate (v : Byte) (s : State) : Result := .next (runSbc (.immediate v) s)

/-- SBC ZeroPage, `0xE5` (rule R105). -/
def execSbcZeroPage (zz : Byte) (s : State) : Result := .next (runSbc (.zeroPage zz) s)

/-- SBC ZeroPageX, `0xF5` (rule R105). -/
def execSbcZeroPageX (zz : Byte) (s : State) : Result := .next (runSbc (.zeroPageX zz) s)

/-- SBC Absolute, `0xED` (rule R105). -/
def execSbcAbsolute (addr : Word) (s : State) : Result := .next (runSbc (.absolute addr) s)

/-- SBC AbsoluteX, `0xFD` (rule R105). -/
def execSbcAbsoluteX (base : Word) (s : State) : Result := .next (runSbc (.absoluteX base) s)

/-- SBC AbsoluteY, `0xF9` (rule R105). -/
def execSbcAbsoluteY (base : Word) (s : State) : Result := .next (runSbc (.absoluteY base) s)

/-- SBC IndirectX, `0xE1` (rule R105). -/
def execSbcIndirectX (zz : Byte) (s : State) : Result := .next (runSbc (.indirectX zz) s)

/-- SBC IndirectY, `0xF1` (rule R105). -/
def execSbcIndirectY (zz : Byte) (s : State) : Result := .next (runSbc (.indirectY zz) s)

/-- AND Immediate, `0x29` (rule R106). -/
def execAndImmediate (v : Byte) (s : State) : Result := .next (runAnd (.immediate v) s)

/-- AND ZeroPage, `0x25` (rule R106). -/
def execAndZeroPage (zz : Byte) (s : State) : Result := .next (runAnd (.zeroPage zz) s)

/-- AND ZeroPageX, `0x35` (rule R106). -/
def execAndZeroPageX (zz : Byte) (s : State) : Result := .next (runAnd (.zeroPageX zz) s)

/-- AND Absolute, `0x2D` (rule R106). -/
def execAndAbsolute (addr : Word) (s : State) : Result := .next (runAnd (.absolute addr) s)

/-- AND AbsoluteX, `0x3D` (rule R106). -/
def execAndAbsoluteX (base : Word) (s : State) : Result := .next (runAnd (.absoluteX base) s)

/-- AND AbsoluteY, `0x39` (rule R106). -/
def execAndAbsoluteY (base : Word) (s : State) : Result := .next (runAnd (.absoluteY base) s)

/-- AND IndirectX, `0x21` (rule R106). -/
def execAndIndirectX (zz : Byte) (s : State) : Result := .next (runAnd (.indirectX zz) s)

/-- AND IndirectY, `0x31` (rule R106). -/
def execAndIndirectY (zz : Byte) (s : State) : Result := .next (runAnd (.indirectY zz) s)

/-- ORA Immediate, `0x09` (rule R107). -/
def execOraImmediate (v : Byte) (s : State) : Result := .next (runOra (.immediate v) s)

/-- ORA ZeroPage, `0x05` (rule R107). -/
def execOraZeroPage (zz : Byte) (s : State) : Result := .next (runOra (.zeroPage zz) s)

/-- ORA ZeroPageX, `0x15` (rule R107). -/
def execOraZeroPageX (zz : Byte) (s : State) : Result := .next (runOra (.zeroPageX zz) s)

/-- ORA Absolute, `0x0D` (rule R107). -/
def execOraAbsolute (addr : Word) (s : State) : Result := .next (runOra (.absolute addr) s)

/-- ORA AbsoluteX, `0x1D` (rule R107). -/
def execOraAbsoluteX (base : Word) (s : State) : Result := .next (runOra (.absoluteX base) s)

/-- ORA AbsoluteY, `0x19` (rule R107). -/
def execOraAbsoluteY (base : Word) (s : State) : Result := .next (runOra (.absoluteY base) s)

/-- ORA IndirectX, `0x01` (rule R107). -/
def execOraIndirectX (zz : Byte) (s : State) : Result := .next (runOra (.indirectX zz) s)

/-- ORA IndirectY, `0x11` (rule R107). -/
def execOraIndirectY (zz : Byte) (s : State) : Result := .next (runOra (.indirectY zz) s)

/-- EOR Immediate, `0x49` (rule R108). -/
def execEorImmediate (v : Byte) (s : State) : Result := .next (runEor (.immediate v) s)

/-- EOR ZeroPage, `0x45` (rule R108). -/
def execEorZeroPage (zz : Byte) (s : State) : Result := .next (runEor (.zeroPage zz) s)

/-- EOR ZeroPageX, `0x55` (rule R108). -/
def execEorZeroPageX (zz : Byte) (s : State) : Result := .next (runEor (.zeroPageX zz) s)

/-- EOR Absolute, `0x4D` (rule R108). -/
def execEorAbsolute (addr : Word) (s : State) : Result := .next (runEor (.absolute addr) s)

/-- EOR AbsoluteX, `0x5D` (rule R108). -/
def execEorAbsoluteX (base : Word) (s : State) : Result := .next (runEor (.absoluteX base) s)

/-- EOR AbsoluteY, `0x59` (rule R108). -/
def execEorAbsoluteY (base : Word) (s : State) : Result := .next (runEor (.absoluteY base) s)

/-- EOR IndirectX, `0x41` (rule R108). -/
def execEorIndirectX (zz : Byte) (s : State) : Result := .next (runEor (.indirectX zz) s)

/-- EOR IndirectY, `0x51` (rule R108). -/
def execEorIndirectY (zz : Byte) (s : State) : Result := .next (runEor (.indirectY zz) s)

/-- BIT ZeroPage, `0x24` (rule R110). -/
def execBitZeroPage (zz : Byte) (s : State) : Result := .next (runBit (.zeroPage zz) s)

/-- BIT Absolute, `0x2C` (rule R110). -/
def execBitAbsolute (addr : Word) (s : State) : Result := .next (runBit (.absolute addr) s)

/-- CMP Immediate, `0xC9` (rule R111). -/
def execCmpImmediate (v : Byte) (s : State) : Result := .next (runCmp (.immediate v) s)

/-- CMP ZeroPage, `0xC5` (rule R111). -/
def execCmpZeroPage (zz : Byte) (s : State) : Result := .next (runCmp (.zeroPage zz) s)

/-- CMP ZeroPageX, `0xD5` (rule R111). -/
def execCmpZeroPageX (zz : Byte) (s : State) : Result := .next (runCmp (.zeroPageX zz) s)

/-- CMP Absolute, `0xCD` (rule R111). -/
def execCmpAbsolute (addr : Word) (s : State) : Result := .next (runCmp (.absolute addr) s)

/-- CMP AbsoluteX, `0xDD` (rule R111). -/
def execCmpAbsoluteX (base : Word) (s : State) : Result := .next (runCmp (.absoluteX base) s)

/-- CMP AbsoluteY, `0xD9` (rule R111). -/
def execCmpAbsoluteY (base : Word) (s : State) : Result := .next (runCmp (.absoluteY base) s)

/-- CMP IndirectX, `0xC1` (rule R111). -/
def execCmpIndirectX (zz : Byte) (s : State) : Result := .next (runCmp (.indirectX zz) s)

/-- CMP IndirectY, `0xD1` (rule R111). -/
def execCmpIndirectY (zz : Byte) (s : State) : Result := .next (runCmp (.indirectY zz) s)

/-- CPX Immediate, `0xE0` (rule R112). -/
def execCpxImmediate (v : Byte) (s : State) : Result := .next (runCpx (.immediate v) s)

/-- CPX ZeroPage, `0xE4` (rule R112). -/
def execCpxZeroPage (zz : Byte) (s : State) : Result := .next (runCpx (.zeroPage zz) s)

/-- CPX Absolute, `0xEC` (rule R112). -/
def execCpxAbsolute (addr : Word) (s : State) : Result := .next (runCpx (.absolute addr) s)

/-- CPY Immediate, `0xC0` (rule R113). -/
def execCpyImmediate (v : Byte) (s : State) : Result := .next (runCpy (.immediate v) s)

/-- CPY ZeroPage, `0xC4` (rule R113). -/
def execCpyZeroPage (zz : Byte) (s : State) : Result := .next (runCpy (.zeroPage zz) s)

/-- CPY Absolute, `0xCC` (rule R113). -/
def execCpyAbsolute (addr : Word) (s : State) : Result := .next (runCpy (.absolute addr) s)

end Sys2Proof.Machine
end

