-- ==== Sys2Proof/Machine/Control.lean ====
section
/-! DEFINITION. Branches, jumps, subroutines, BRK and RTI (44_control_transfer.md).
First the handler of each mnemonic, on any operand (30_encoding.md rule R73), applied to the state at the start of
the step; then the meaning of each row of the opcode table, its handler on the row's operand. -/

namespace Sys2Proof.Machine

/-- The branch template: `PC` becomes `ea` if the condition holds, else the next instruction (rule R140). -/
def branchIf (condition : Bool) (op : Operand) (s : State) : State :=
  if condition then s.setPC (effectiveAddress op s) else pastInstruction op s

/-- BCC: taken when C is clear (rule R141). -/
def runBcc (op : Operand) (s : State) : State := branchIf (!s.p.c) op s

/-- BCS: taken when C is set (rule R142). -/
def runBcs (op : Operand) (s : State) : State := branchIf s.p.c op s

/-- BEQ: taken when Z is set (rule R143). -/
def runBeq (op : Operand) (s : State) : State := branchIf s.p.z op s

/-- BMI: taken when N is set (rule R144). -/
def runBmi (op : Operand) (s : State) : State := branchIf s.p.n op s

/-- BNE: taken when Z is clear (rule R145). -/
def runBne (op : Operand) (s : State) : State := branchIf (!s.p.z) op s

/-- BPL: taken when N is clear (rule R146). -/
def runBpl (op : Operand) (s : State) : State := branchIf (!s.p.n) op s

/-- BVC: taken when V is clear (rule R147). -/
def runBvc (op : Operand) (s : State) : State := branchIf (!s.p.v) op s

/-- BVS: taken when V is set (rule R148). -/
def runBvs (op : Operand) (s : State) : State := branchIf s.p.v op s

/-- JMP: `PC` becomes `ea` (rule R149). -/
def runJmp (op : Operand) (s : State) : State := s.setPC (effectiveAddress op s)

/-- JSR: push the address of its last byte, then jump (rules R150, R151). -/
def runJsr (op : Operand) (s : State) : State :=
  (push16 (nextPC op s - 1) (pastInstruction op s)).setPC (effectiveAddress op s)

/-- RTS: the pulled word plus one; a status byte is pulled first only under `RTS_PULLS_STATUS` (rule R152,
90_conflicts.md C1). -/
def runRts (op : Operand) (s : State) : State :=
  let start := pastInstruction op s
  let pulled := pull16 (if start.cfg.rtsPullsStatus then pullStatus start else start)
  pulled.2.setPC (pulled.1 + 1)

/-- RTI: the status and `PC` from the stack (rule R153). -/
def runRti (op : Operand) (s : State) : State := returnFromTrap (pastInstruction op s)

/-- BRK: a no-op while I is set under `BRK_MASKED_BY_I`, else the trap (rule R155). -/
def runBrk (op : Operand) (s : State) : State :=
  if s.cfg.brkMaskedByI && s.p.i then pastInstruction op s else brkTrap (pastInstruction op s)

/-! ### The rows of the opcode table -/

/-- BCC Relative, `0x90` (rule R141). -/
def execBcc (rr : Byte) (s : State) : Result := .next (runBcc (.relative rr) s)

/-- BCS Relative, `0xB0` (rule R142). -/
def execBcs (rr : Byte) (s : State) : Result := .next (runBcs (.relative rr) s)

/-- BEQ Relative, `0xF0` (rule R143). -/
def execBeq (rr : Byte) (s : State) : Result := .next (runBeq (.relative rr) s)

/-- BMI Relative, `0x30` (rule R144). -/
def execBmi (rr : Byte) (s : State) : Result := .next (runBmi (.relative rr) s)

/-- BNE Relative, `0xD0` (rule R145). -/
def execBne (rr : Byte) (s : State) : Result := .next (runBne (.relative rr) s)

/-- BPL Relative, `0x10` (rule R146). -/
def execBpl (rr : Byte) (s : State) : Result := .next (runBpl (.relative rr) s)

/-- BVC Relative, `0x50` (rule R147). -/
def execBvc (rr : Byte) (s : State) : Result := .next (runBvc (.relative rr) s)

/-- BVS Relative, `0x70` (rule R148). -/
def execBvs (rr : Byte) (s : State) : Result := .next (runBvs (.relative rr) s)

/-- JMP Absolute, `0x4C` (rule R149). -/
def execJmpAbsolute (addr : Word) (s : State) : Result := .next (runJmp (.absolute addr) s)

/-- JMP Indirect, `0x6C` (rule R149). -/
def execJmpIndirect (ptr : Word) (s : State) : Result := .next (runJmp (.indirect ptr) s)

/-- JSR Absolute, `0x20` (rule R150). -/
def execJsr (addr : Word) (s : State) : Result := .next (runJsr (.absolute addr) s)

/-- RTS Implied, `0x60` (rule R152). -/
def execRts (s : State) : Result := .next (runRts .implied s)

/-- RTI Implied, `0x40` (rule R153). -/
def execRti (s : State) : Result := .next (runRti .implied s)

/-- BRK Implied, `0x00` (rule R155). -/
def execBrk (s : State) : Result := .next (runBrk .implied s)

end Sys2Proof.Machine
end

