-- ==== Sys2Proof/Machine/FlagsTransfer.lean ====
section
/-! DEFINITION. Flag, transfer and no-op instructions (47_flags_transfer_nop.md).
First the handler of each mnemonic, on any operand (30_encoding.md rule R73), applied to the state at the start of
the step; then the meaning of each row of the opcode table, its handler on the row's operand. -/

namespace Sys2Proof.Machine

/-- A flag instruction: one flag written, `PC` advanced (rule R180). -/
def writeFlag (f : Flag) (value : Bool) (op : Operand) (s : State) : State :=
  (pastInstruction op s).setP (s.p.set f value)

/-- SEC (rule R181). -/
def runSec (op : Operand) (s : State) : State := writeFlag .c true op s

/-- SED (rule R182). -/
def runSed (op : Operand) (s : State) : State := writeFlag .d true op s

/-- SEI (rule R183). -/
def runSei (op : Operand) (s : State) : State := writeFlag .i true op s

/-- CLC (rule R184). -/
def runClc (op : Operand) (s : State) : State := writeFlag .c false op s

/-- CLD (rule R185). -/
def runCld (op : Operand) (s : State) : State := writeFlag .d false op s

/-- CLI (rule R186). -/
def runCli (op : Operand) (s : State) : State := writeFlag .i false op s

/-- CLV (rule R187). -/
def runClv (op : Operand) (s : State) : State := writeFlag .v false op s

/-- TAX: `A` to `X`, with Z and N (rule R188). -/
def runTax (op : Operand) (s : State) : State := ((pastInstruction op s).setX s.a).setP (setZN s.a s.p)

/-- TAY: `A` to `Y`, with Z and N (rule R189). -/
def runTay (op : Operand) (s : State) : State := ((pastInstruction op s).setY s.a).setP (setZN s.a s.p)

/-- TSX: `S` to `X`, with Z and N (rule R190). -/
def runTsx (op : Operand) (s : State) : State := ((pastInstruction op s).setX s.sp).setP (setZN s.sp s.p)

/-- TXA: `X` to `A`, with Z and N (rule R191). -/
def runTxa (op : Operand) (s : State) : State := setAccumulator s.x (pastInstruction op s)

/-- TXS: `X` to `S`, no flag changes (rule R192). -/
def runTxs (op : Operand) (s : State) : State := (pastInstruction op s).setSP s.x

/-- TYA: `Y` to `A`, with Z and N (rule R193). -/
def runTya (op : Operand) (s : State) : State := setAccumulator s.y (pastInstruction op s)

/-- NOP: `PC` only (rule R194). -/
def runNop (op : Operand) (s : State) : State := pastInstruction op s

/-! ### The rows of the opcode table -/

/-- SEC Implied, `0x38` (rule R181). -/
def execSec (s : State) : Result := .next (runSec .implied s)

/-- SED Implied, `0xF8` (rule R182). -/
def execSed (s : State) : Result := .next (runSed .implied s)

/-- SEI Implied, `0x78` (rule R183). -/
def execSei (s : State) : Result := .next (runSei .implied s)

/-- CLC Implied, `0x18` (rule R184). -/
def execClc (s : State) : Result := .next (runClc .implied s)

/-- CLD Implied, `0xD8` (rule R185). -/
def execCld (s : State) : Result := .next (runCld .implied s)

/-- CLI Implied, `0x58` (rule R186). -/
def execCli (s : State) : Result := .next (runCli .implied s)

/-- CLV Implied, `0xB8` (rule R187). -/
def execClv (s : State) : Result := .next (runClv .implied s)

/-- TAX Implied, `0xAA` (rule R188). -/
def execTax (s : State) : Result := .next (runTax .implied s)

/-- TAY Implied, `0xA8` (rule R189). -/
def execTay (s : State) : Result := .next (runTay .implied s)

/-- TSX Implied, `0xBA` (rule R190). -/
def execTsx (s : State) : Result := .next (runTsx .implied s)

/-- TXA Implied, `0x8A` (rule R191). -/
def execTxa (s : State) : Result := .next (runTxa .implied s)

/-- TXS Implied, `0x9A` (rule R192). -/
def execTxs (s : State) : Result := .next (runTxs .implied s)

/-- TYA Implied, `0x98` (rule R193). -/
def execTya (s : State) : Result := .next (runTya .implied s)

/-- NOP Implied, `0xEA` (rule R194). -/
def execNop (s : State) : Result := .next (runNop .implied s)

end Sys2Proof.Machine
end

