-- ==== Sys2Proof/Machine/IncDec.lean ====
section
/-! DEFINITION. Increment and decrement (43_inc_dec.md).
First the handler of each mnemonic, on any operand (30_encoding.md rule R73), applied to the state at the start of
the step; then the meaning of each row of the opcode table, its handler on the row's operand. -/

namespace Sys2Proof.Machine

/-- Write a memory cell's new value and set Z and N from it. -/
def storeCounted (op : Operand) (r : Byte) (s : State) : State :=
  ((pastInstruction op s).write (effectiveAddress op s) r).setP (setZN r s.p)

/-- DEC: memory minus one (rule R130). -/
def runDec (op : Operand) (s : State) : State := storeCounted op (operandByte op s - 1) s

/-- DEX (rule R131). -/
def runDex (op : Operand) (s : State) : State :=
  ((pastInstruction op s).setX (s.x - 1)).setP (setZN (s.x - 1) s.p)

/-- DEY (rule R132). -/
def runDey (op : Operand) (s : State) : State :=
  ((pastInstruction op s).setY (s.y - 1)).setP (setZN (s.y - 1) s.p)

/-- INC: memory plus one (rule R133). -/
def runInc (op : Operand) (s : State) : State := storeCounted op (operandByte op s + 1) s

/-- INX (rule R134). -/
def runInx (op : Operand) (s : State) : State :=
  ((pastInstruction op s).setX (s.x + 1)).setP (setZN (s.x + 1) s.p)

/-- INY (rule R135). -/
def runIny (op : Operand) (s : State) : State :=
  ((pastInstruction op s).setY (s.y + 1)).setP (setZN (s.y + 1) s.p)

/-! ### The rows of the opcode table -/

/-- DEC ZeroPage, `0xC6` (rule R130). -/
def execDecZeroPage (zz : Byte) (s : State) : Result := .next (runDec (.zeroPage zz) s)

/-- DEC ZeroPageX, `0xD6` (rule R130). -/
def execDecZeroPageX (zz : Byte) (s : State) : Result := .next (runDec (.zeroPageX zz) s)

/-- DEC Absolute, `0xCE` (rule R130). -/
def execDecAbsolute (addr : Word) (s : State) : Result := .next (runDec (.absolute addr) s)

/-- DEC AbsoluteX, `0xDE` (rule R130). -/
def execDecAbsoluteX (base : Word) (s : State) : Result := .next (runDec (.absoluteX base) s)

/-- DEX Implied, `0xCA` (rule R131). -/
def execDex (s : State) : Result := .next (runDex .implied s)

/-- DEY Implied, `0x88` (rule R132). -/
def execDey (s : State) : Result := .next (runDey .implied s)

/-- INC ZeroPage, `0xE6` (rule R133). -/
def execIncZeroPage (zz : Byte) (s : State) : Result := .next (runInc (.zeroPage zz) s)

/-- INC ZeroPageX, `0xF6` (rule R133). -/
def execIncZeroPageX (zz : Byte) (s : State) : Result := .next (runInc (.zeroPageX zz) s)

/-- INC Absolute, `0xEE` (rule R133). -/
def execIncAbsolute (addr : Word) (s : State) : Result := .next (runInc (.absolute addr) s)

/-- INC AbsoluteX, `0xFE` (rule R133). -/
def execIncAbsoluteX (base : Word) (s : State) : Result := .next (runInc (.absoluteX base) s)

/-- INX Implied, `0xE8` (rule R134). -/
def execInx (s : State) : Result := .next (runInx .implied s)

/-- INY Implied, `0xC8` (rule R135). -/
def execIny (s : State) : Result := .next (runIny .implied s)

end Sys2Proof.Machine
end

