-- ==== Sys2Proof/Machine/LoadStore.lean ====
section
/-! DEFINITION. Loads and stores (45_load_store.md).
First the handler of each mnemonic, on any operand (30_encoding.md rule R73), applied to the state at the start of
the step; then the meaning of each row of the opcode table, its handler on the row's operand. -/

namespace Sys2Proof.Machine

/-- LDA (rule R160). -/
def runLda (op : Operand) (s : State) : State := setAccumulator (operandByte op s) (pastInstruction op s)

/-- LDX (rule R161). -/
def runLdx (op : Operand) (s : State) : State :=
  ((pastInstruction op s).setX (operandByte op s)).setP (setZN (operandByte op s) s.p)

/-- LDY (rule R162). -/
def runLdy (op : Operand) (s : State) : State :=
  ((pastInstruction op s).setY (operandByte op s)).setP (setZN (operandByte op s) s.p)

/-- STA: no flag changes (rule R163). -/
def runSta (op : Operand) (s : State) : State := (pastInstruction op s).write (effectiveAddress op s) s.a

/-- STX: no flag changes (rule R164). -/
def runStx (op : Operand) (s : State) : State := (pastInstruction op s).write (effectiveAddress op s) s.x

/-- STY: no flag changes (rule R165). -/
def runSty (op : Operand) (s : State) : State := (pastInstruction op s).write (effectiveAddress op s) s.y

/-! ### The rows of the opcode table -/

/-- LDA Immediate, `0xA9` (rule R160). -/
def execLdaImmediate (v : Byte) (s : State) : Result := .next (runLda (.immediate v) s)

/-- LDA ZeroPage, `0xA5` (rule R160). -/
def execLdaZeroPage (zz : Byte) (s : State) : Result := .next (runLda (.zeroPage zz) s)

/-- LDA ZeroPageX, `0xB5` (rule R160). -/
def execLdaZeroPageX (zz : Byte) (s : State) : Result := .next (runLda (.zeroPageX zz) s)

/-- LDA Absolute, `0xAD` (rule R160). -/
def execLdaAbsolute (addr : Word) (s : State) : Result := .next (runLda (.absolute addr) s)

/-- LDA AbsoluteX, `0xBD` (rule R160). -/
def execLdaAbsoluteX (base : Word) (s : State) : Result := .next (runLda (.absoluteX base) s)

/-- LDA AbsoluteY, `0xB9` (rule R160). -/
def execLdaAbsoluteY (base : Word) (s : State) : Result := .next (runLda (.absoluteY base) s)

/-- LDA IndirectX, `0xA1` (rule R160). -/
def execLdaIndirectX (zz : Byte) (s : State) : Result := .next (runLda (.indirectX zz) s)

/-- LDA IndirectY, `0xB1` (rule R160). -/
def execLdaIndirectY (zz : Byte) (s : State) : Result := .next (runLda (.indirectY zz) s)

/-- LDX Immediate, `0xA2` (rule R161). -/
def execLdxImmediate (v : Byte) (s : State) : Result := .next (runLdx (.immediate v) s)

/-- LDX ZeroPage, `0xA6` (rule R161). -/
def execLdxZeroPage (zz : Byte) (s : State) : Result := .next (runLdx (.zeroPage zz) s)

/-- LDX ZeroPageY, `0xB6` (rule R161). -/
def execLdxZeroPageY (zz : Byte) (s : State) : Result := .next (runLdx (.zeroPageY zz) s)

/-- LDX Absolute, `0xAE` (rule R161). -/
def execLdxAbsolute (addr : Word) (s : State) : Result := .next (runLdx (.absolute addr) s)

/-- LDX AbsoluteY, `0xBE` (rule R161). -/
def execLdxAbsoluteY (base : Word) (s : State) : Result := .next (runLdx (.absoluteY base) s)

/-- LDY Immediate, `0xA0` (rule R162). -/
def execLdyImmediate (v : Byte) (s : State) : Result := .next (runLdy (.immediate v) s)

/-- LDY ZeroPage, `0xA4` (rule R162). -/
def execLdyZeroPage (zz : Byte) (s : State) : Result := .next (runLdy (.zeroPage zz) s)

/-- LDY ZeroPageX, `0xB4` (rule R162). -/
def execLdyZeroPageX (zz : Byte) (s : State) : Result := .next (runLdy (.zeroPageX zz) s)

/-- LDY Absolute, `0xAC` (rule R162). -/
def execLdyAbsolute (addr : Word) (s : State) : Result := .next (runLdy (.absolute addr) s)

/-- LDY AbsoluteX, `0xBC` (rule R162). -/
def execLdyAbsoluteX (base : Word) (s : State) : Result := .next (runLdy (.absoluteX base) s)

/-- STA ZeroPage, `0x85` (rule R163). -/
def execStaZeroPage (zz : Byte) (s : State) : Result := .next (runSta (.zeroPage zz) s)

/-- STA ZeroPageX, `0x95` (rule R163). -/
def execStaZeroPageX (zz : Byte) (s : State) : Result := .next (runSta (.zeroPageX zz) s)

/-- STA Absolute, `0x8D` (rule R163). -/
def execStaAbsolute (addr : Word) (s : State) : Result := .next (runSta (.absolute addr) s)

/-- STA AbsoluteX, `0x9D` (rule R163). -/
def execStaAbsoluteX (base : Word) (s : State) : Result := .next (runSta (.absoluteX base) s)

/-- STA AbsoluteY, `0x99` (rule R163). -/
def execStaAbsoluteY (base : Word) (s : State) : Result := .next (runSta (.absoluteY base) s)

/-- STA IndirectX, `0x81` (rule R163). -/
def execStaIndirectX (zz : Byte) (s : State) : Result := .next (runSta (.indirectX zz) s)

/-- STA IndirectY, `0x91` (rule R163). -/
def execStaIndirectY (zz : Byte) (s : State) : Result := .next (runSta (.indirectY zz) s)

/-- STX ZeroPage, `0x86` (rule R164). -/
def execStxZeroPage (zz : Byte) (s : State) : Result := .next (runStx (.zeroPage zz) s)

/-- STX ZeroPageY, `0x96` (rule R164). -/
def execStxZeroPageY (zz : Byte) (s : State) : Result := .next (runStx (.zeroPageY zz) s)

/-- STX Absolute, `0x8E` (rule R164). -/
def execStxAbsolute (addr : Word) (s : State) : Result := .next (runStx (.absolute addr) s)

/-- STY ZeroPage, `0x84` (rule R165). -/
def execStyZeroPage (zz : Byte) (s : State) : Result := .next (runSty (.zeroPage zz) s)

/-- STY ZeroPageX, `0x94` (rule R165). -/
def execStyZeroPageX (zz : Byte) (s : State) : Result := .next (runSty (.zeroPageX zz) s)

/-- STY Absolute, `0x8C` (rule R165). -/
def execStyAbsolute (addr : Word) (s : State) : Result := .next (runSty (.absolute addr) s)

end Sys2Proof.Machine
end

