-- ==== Sys2Proof/Machine/Shift.lean ====
section
/-! DEFINITION. The shift and rotate instructions, dispatched on the mode (42_shift_rotate.md, 90_conflicts.md C2).
First the handler of each mnemonic, on any operand (30_encoding.md rule R73), applied to the state at the start of
the step; then the meaning of each row of the opcode table, its handler on the row's operand. -/

namespace Sys2Proof.Machine

/-- `load()`: `A` in Accumulator mode, else the byte at `ea` (rule R120). -/
def shiftOperand (op : Operand) (s : State) : Byte :=
  match op with
  | .accumulator => s.a
  | other => operandByte other s

/-- `store(r)`: to `A` in Accumulator mode, else to `ea` (rule R120); `ea` is resolved on the state at the start of
the step. -/
def shiftStore (op : Operand) (r : Byte) (s : State) : State :=
  match op with
  | .accumulator => s.setA r
  | other => s.write (effectiveAddress other s) r

/-- A shift whose result and shifted-out bit are given: the store, the flags and the advance of `PC`. -/
def shiftWith (op : Operand) (out : Byte × Bool) (s : State) : State :=
  ((shiftStore op out.1 s).setP (setShiftFlags out s.p)).setPC (nextPC op s)

/-- ASL (rule R121). -/
def runAsl (op : Operand) (s : State) : State := shiftWith op (asl8 (shiftOperand op s)) s

/-- LSR (rule R122). -/
def runLsr (op : Operand) (s : State) : State := shiftWith op (lsr8 (shiftOperand op s)) s

/-- ROL (rule R123). -/
def runRol (op : Operand) (s : State) : State := shiftWith op (rol8 (shiftOperand op s) s.p.c) s

/-- ROR (rule R124). -/
def runRor (op : Operand) (s : State) : State := shiftWith op (ror8 (shiftOperand op s) s.p.c) s

/-! ### The rows of the opcode table -/

/-- ASL Accumulator, `0x0A` (rule R121). -/
def execAslAccumulator (s : State) : Result := .next (runAsl .accumulator s)

/-- ASL ZeroPage, `0x06` (rule R121). -/
def execAslZeroPage (zz : Byte) (s : State) : Result := .next (runAsl (.zeroPage zz) s)

/-- ASL ZeroPageX, `0x16` (rule R121). -/
def execAslZeroPageX (zz : Byte) (s : State) : Result := .next (runAsl (.zeroPageX zz) s)

/-- ASL Absolute, `0x0E` (rule R121). -/
def execAslAbsolute (addr : Word) (s : State) : Result := .next (runAsl (.absolute addr) s)

/-- ASL AbsoluteX, `0x1E` (rule R121). -/
def execAslAbsoluteX (base : Word) (s : State) : Result := .next (runAsl (.absoluteX base) s)

/-- LSR Accumulator, `0x4A` (rule R122). -/
def execLsrAccumulator (s : State) : Result := .next (runLsr .accumulator s)

/-- LSR ZeroPage, `0x46` (rule R122). -/
def execLsrZeroPage (zz : Byte) (s : State) : Result := .next (runLsr (.zeroPage zz) s)

/-- LSR ZeroPageX, `0x56` (rule R122). -/
def execLsrZeroPageX (zz : Byte) (s : State) : Result := .next (runLsr (.zeroPageX zz) s)

/-- LSR Absolute, `0x4E` (rule R122). -/
def execLsrAbsolute (addr : Word) (s : State) : Result := .next (runLsr (.absolute addr) s)

/-- LSR AbsoluteX, `0x5E` (rule R122). -/
def execLsrAbsoluteX (base : Word) (s : State) : Result := .next (runLsr (.absoluteX base) s)

/-- ROL Accumulator, `0x2A` (rule R123). -/
def execRolAccumulator (s : State) : Result := .next (runRol .accumulator s)

/-- ROL ZeroPage, `0x26` (rule R123). -/
def execRolZeroPage (zz : Byte) (s : State) : Result := .next (runRol (.zeroPage zz) s)

/-- ROL ZeroPageX, `0x36` (rule R123). -/
def execRolZeroPageX (zz : Byte) (s : State) : Result := .next (runRol (.zeroPageX zz) s)

/-- ROL Absolute, `0x2E` (rule R123). -/
def execRolAbsolute (addr : Word) (s : State) : Result := .next (runRol (.absolute addr) s)

/-- ROL AbsoluteX, `0x3E` (rule R123). -/
def execRolAbsoluteX (base : Word) (s : State) : Result := .next (runRol (.absoluteX base) s)

/-- ROR Accumulator, `0x6A` (rule R124). -/
def execRorAccumulator (s : State) : Result := .next (runRor .accumulator s)

/-- ROR ZeroPage, `0x66` (rule R124). -/
def execRorZeroPage (zz : Byte) (s : State) : Result := .next (runRor (.zeroPage zz) s)

/-- ROR ZeroPageX, `0x76` (rule R124). -/
def execRorZeroPageX (zz : Byte) (s : State) : Result := .next (runRor (.zeroPageX zz) s)

/-- ROR Absolute, `0x6E` (rule R124). -/
def execRorAbsolute (addr : Word) (s : State) : Result := .next (runRor (.absolute addr) s)

/-- ROR AbsoluteX, `0x7E` (rule R124). -/
def execRorAbsoluteX (base : Word) (s : State) : Result := .next (runRor (.absoluteX base) s)

end Sys2Proof.Machine
end

