-- ==== Sys2Proof/Machine/Stack.lean ====
section
/-! DEFINITION. Stack instructions (46_stack.md).
First the handler of each mnemonic, on any operand (30_encoding.md rule R73), applied to the state at the start of
the step; then the meaning of each row of the opcode table, its handler on the row's operand. -/

namespace Sys2Proof.Machine

/-- PHA: push `A` (rule R170). -/
def runPha (op : Operand) (s : State) : State := push8 s.a (pastInstruction op s)

/-- PHP: push the packed status as it stands (rule R171). -/
def runPhp (op : Operand) (s : State) : State := push8 (pack s.p) (pastInstruction op s)

/-- PLA: pull `A`, with Z and N (rule R172). -/
def runPla (op : Operand) (s : State) : State :=
  let pulled := pull8 (pastInstruction op s)
  setAccumulator pulled.1 pulled.2

/-- PLP: pull the whole status (rule R173). -/
def runPlp (op : Operand) (s : State) : State := pullStatus (pastInstruction op s)

/-! ### The rows of the opcode table -/

/-- PHA Implied, `0x48` (rule R170). -/
def execPha (s : State) : Result := .next (runPha .implied s)

/-- PHP Implied, `0x08` (rule R171). -/
def execPhp (s : State) : Result := .next (runPhp .implied s)

/-- PLA Implied, `0x68` (rule R172). -/
def execPla (s : State) : Result := .next (runPla .implied s)

/-- PLP Implied, `0x28` (rule R173). -/
def execPlp (s : State) : Result := .next (runPlp .implied s)

end Sys2Proof.Machine
end

