-- ==== Sys2Proof/Machine/Dispatch.lean ====
section
/-! DEFINITION. The executor's dispatch: one arm for each row of the opcode table (30_encoding.md rule R73). -/

namespace Sys2Proof.Machine

def exec (i : Instr) (s : State) : Host.Outcome State Fault Refusal :=
  match i with
  -- Machine/Alu.lean
  | .adcImmediate v => Sys2Proof.Machine.execAdcImmediate v s
  | .adcZeroPage zz => Sys2Proof.Machine.execAdcZeroPage zz s
  | .adcZeroPageX zz => Sys2Proof.Machine.execAdcZeroPageX zz s
  | .adcAbsolute addr => Sys2Proof.Machine.execAdcAbsolute addr s
  | .adcAbsoluteX base => Sys2Proof.Machine.execAdcAbsoluteX base s
  | .adcAbsoluteY base => Sys2Proof.Machine.execAdcAbsoluteY base s
  | .adcIndirectX zz => Sys2Proof.Machine.execAdcIndirectX zz s
  | .adcIndirectY zz => Sys2Proof.Machine.execAdcIndirectY zz s
  | .sbcImmediate v => Sys2Proof.Machine.execSbcImmediate v s
  | .sbcZeroPage zz => Sys2Proof.Machine.execSbcZeroPage zz s
  | .sbcZeroPageX zz => Sys2Proof.Machine.execSbcZeroPageX zz s
  | .sbcAbsolute addr => Sys2Proof.Machine.execSbcAbsolute addr s
  | .sbcAbsoluteX base => Sys2Proof.Machine.execSbcAbsoluteX base s
  | .sbcAbsoluteY base => Sys2Proof.Machine.execSbcAbsoluteY base s
  | .sbcIndirectX zz => Sys2Proof.Machine.execSbcIndirectX zz s
  | .sbcIndirectY zz => Sys2Proof.Machine.execSbcIndirectY zz s
  | .andImmediate v => Sys2Proof.Machine.execAndImmediate v s
  | .andZeroPage zz => Sys2Proof.Machine.execAndZeroPage zz s
  | .andZeroPageX zz => Sys2Proof.Machine.execAndZeroPageX zz s
  | .andAbsolute addr => Sys2Proof.Machine.execAndAbsolute addr s
  | .andAbsoluteX base => Sys2Proof.Machine.execAndAbsoluteX base s
  | .andAbsoluteY base => Sys2Proof.Machine.execAndAbsoluteY base s
  | .andIndirectX zz => Sys2Proof.Machine.execAndIndirectX zz s
  | .andIndirectY zz => Sys2Proof.Machine.execAndIndirectY zz s
  | .oraImmediate v => Sys2Proof.Machine.execOraImmediate v s
  | .oraZeroPage zz => Sys2Proof.Machine.execOraZeroPage zz s
  | .oraZeroPageX zz => Sys2Proof.Machine.execOraZeroPageX zz s
  | .oraAbsolute addr => Sys2Proof.Machine.execOraAbsolute addr s
  | .oraAbsoluteX base => Sys2Proof.Machine.execOraAbsoluteX base s
  | .oraAbsoluteY base => Sys2Proof.Machine.execOraAbsoluteY base s
  | .oraIndirectX zz => Sys2Proof.Machine.execOraIndirectX zz s
  | .oraIndirectY zz => Sys2Proof.Machine.execOraIndirectY zz s
  | .eorImmediate v => Sys2Proof.Machine.execEorImmediate v s
  | .eorZeroPage zz => Sys2Proof.Machine.execEorZeroPage zz s
  | .eorZeroPageX zz => Sys2Proof.Machine.execEorZeroPageX zz s
  | .eorAbsolute addr => Sys2Proof.Machine.execEorAbsolute addr s
  | .eorAbsoluteX base => Sys2Proof.Machine.execEorAbsoluteX base s
  | .eorAbsoluteY base => Sys2Proof.Machine.execEorAbsoluteY base s
  | .eorIndirectX zz => Sys2Proof.Machine.execEorIndirectX zz s
  | .eorIndirectY zz => Sys2Proof.Machine.execEorIndirectY zz s
  | .bitZeroPage zz => Sys2Proof.Machine.execBitZeroPage zz s
  | .bitAbsolute addr => Sys2Proof.Machine.execBitAbsolute addr s
  | .cmpImmediate v => Sys2Proof.Machine.execCmpImmediate v s
  | .cmpZeroPage zz => Sys2Proof.Machine.execCmpZeroPage zz s
  | .cmpZeroPageX zz => Sys2Proof.Machine.execCmpZeroPageX zz s
  | .cmpAbsolute addr => Sys2Proof.Machine.execCmpAbsolute addr s
  | .cmpAbsoluteX base => Sys2Proof.Machine.execCmpAbsoluteX base s
  | .cmpAbsoluteY base => Sys2Proof.Machine.execCmpAbsoluteY base s
  | .cmpIndirectX zz => Sys2Proof.Machine.execCmpIndirectX zz s
  | .cmpIndirectY zz => Sys2Proof.Machine.execCmpIndirectY zz s
  | .cpxImmediate v => Sys2Proof.Machine.execCpxImmediate v s
  | .cpxZeroPage zz => Sys2Proof.Machine.execCpxZeroPage zz s
  | .cpxAbsolute addr => Sys2Proof.Machine.execCpxAbsolute addr s
  | .cpyImmediate v => Sys2Proof.Machine.execCpyImmediate v s
  | .cpyZeroPage zz => Sys2Proof.Machine.execCpyZeroPage zz s
  | .cpyAbsolute addr => Sys2Proof.Machine.execCpyAbsolute addr s
  -- Machine/Shift.lean
  | .aslAccumulator => Sys2Proof.Machine.execAslAccumulator s
  | .aslZeroPage zz => Sys2Proof.Machine.execAslZeroPage zz s
  | .aslZeroPageX zz => Sys2Proof.Machine.execAslZeroPageX zz s
  | .aslAbsolute addr => Sys2Proof.Machine.execAslAbsolute addr s
  | .aslAbsoluteX base => Sys2Proof.Machine.execAslAbsoluteX base s
  | .lsrAccumulator => Sys2Proof.Machine.execLsrAccumulator s
  | .lsrZeroPage zz => Sys2Proof.Machine.execLsrZeroPage zz s
  | .lsrZeroPageX zz => Sys2Proof.Machine.execLsrZeroPageX zz s
  | .lsrAbsolute addr => Sys2Proof.Machine.execLsrAbsolute addr s
  | .lsrAbsoluteX base => Sys2Proof.Machine.execLsrAbsoluteX base s
  | .rolAccumulator => Sys2Proof.Machine.execRolAccumulator s
  | .rolZeroPage zz => Sys2Proof.Machine.execRolZeroPage zz s
  | .rolZeroPageX zz => Sys2Proof.Machine.execRolZeroPageX zz s
  | .rolAbsolute addr => Sys2Proof.Machine.execRolAbsolute addr s
  | .rolAbsoluteX base => Sys2Proof.Machine.execRolAbsoluteX base s
  | .rorAccumulator => Sys2Proof.Machine.execRorAccumulator s
  | .rorZeroPage zz => Sys2Proof.Machine.execRorZeroPage zz s
  | .rorZeroPageX zz => Sys2Proof.Machine.execRorZeroPageX zz s
  | .rorAbsolute addr => Sys2Proof.Machine.execRorAbsolute addr s
  | .rorAbsoluteX base => Sys2Proof.Machine.execRorAbsoluteX base s
  -- Machine/IncDec.lean
  | .decZeroPage zz => Sys2Proof.Machine.execDecZeroPage zz s
  | .decZeroPageX zz => Sys2Proof.Machine.execDecZeroPageX zz s
  | .decAbsolute addr => Sys2Proof.Machine.execDecAbsolute addr s
  | .decAbsoluteX base => Sys2Proof.Machine.execDecAbsoluteX base s
  | .dex => Sys2Proof.Machine.execDex s
  | .dey => Sys2Proof.Machine.execDey s
  | .incZeroPage zz => Sys2Proof.Machine.execIncZeroPage zz s
  | .incZeroPageX zz => Sys2Proof.Machine.execIncZeroPageX zz s
  | .incAbsolute addr => Sys2Proof.Machine.execIncAbsolute addr s
  | .incAbsoluteX base => Sys2Proof.Machine.execIncAbsoluteX base s
  | .inx => Sys2Proof.Machine.execInx s
  | .iny => Sys2Proof.Machine.execIny s
  -- Machine/Control.lean
  | .bcc rr => Sys2Proof.Machine.execBcc rr s
  | .bcs rr => Sys2Proof.Machine.execBcs rr s
  | .beq rr => Sys2Proof.Machine.execBeq rr s
  | .bmi rr => Sys2Proof.Machine.execBmi rr s
  | .bne rr => Sys2Proof.Machine.execBne rr s
  | .bpl rr => Sys2Proof.Machine.execBpl rr s
  | .bvc rr => Sys2Proof.Machine.execBvc rr s
  | .bvs rr => Sys2Proof.Machine.execBvs rr s
  | .jmpAbsolute addr => Sys2Proof.Machine.execJmpAbsolute addr s
  | .jmpIndirect ptr => Sys2Proof.Machine.execJmpIndirect ptr s
  | .jsr addr => Sys2Proof.Machine.execJsr addr s
  | .rts => Sys2Proof.Machine.execRts s
  | .rti => Sys2Proof.Machine.execRti s
  | .brk => Sys2Proof.Machine.execBrk s
  -- Machine/LoadStore.lean
  | .ldaImmediate v => Sys2Proof.Machine.execLdaImmediate v s
  | .ldaZeroPage zz => Sys2Proof.Machine.execLdaZeroPage zz s
  | .ldaZeroPageX zz => Sys2Proof.Machine.execLdaZeroPageX zz s
  | .ldaAbsolute addr => Sys2Proof.Machine.execLdaAbsolute addr s
  | .ldaAbsoluteX base => Sys2Proof.Machine.execLdaAbsoluteX base s
  | .ldaAbsoluteY base => Sys2Proof.Machine.execLdaAbsoluteY base s
  | .ldaIndirectX zz => Sys2Proof.Machine.execLdaIndirectX zz s
  | .ldaIndirectY zz => Sys2Proof.Machine.execLdaIndirectY zz s
  | .ldxImmediate v => Sys2Proof.Machine.execLdxImmediate v s
  | .ldxZeroPage zz => Sys2Proof.Machine.execLdxZeroPage zz s
  | .ldxZeroPageY zz => Sys2Proof.Machine.execLdxZeroPageY zz s
  | .ldxAbsolute addr => Sys2Proof.Machine.execLdxAbsolute addr s
  | .ldxAbsoluteY base => Sys2Proof.Machine.execLdxAbsoluteY base s
  | .ldyImmediate v => Sys2Proof.Machine.execLdyImmediate v s
  | .ldyZeroPage zz => Sys2Proof.Machine.execLdyZeroPage zz s
  | .ldyZeroPageX zz => Sys2Proof.Machine.execLdyZeroPageX zz s
  | .ldyAbsolute addr => Sys2Proof.Machine.execLdyAbsolute addr s
  | .ldyAbsoluteX base => Sys2Proof.Machine.execLdyAbsoluteX base s
  | .staZeroPage zz => Sys2Proof.Machine.execStaZeroPage zz s
  | .staZeroPageX zz => Sys2Proof.Machine.execStaZeroPageX zz s
  | .staAbsolute addr => Sys2Proof.Machine.execStaAbsolute addr s
  | .staAbsoluteX base => Sys2Proof.Machine.execStaAbsoluteX base s
  | .staAbsoluteY base => Sys2Proof.Machine.execStaAbsoluteY base s
  | .staIndirectX zz => Sys2Proof.Machine.execStaIndirectX zz s
  | .staIndirectY zz => Sys2Proof.Machine.execStaIndirectY zz s
  | .stxZeroPage zz => Sys2Proof.Machine.execStxZeroPage zz s
  | .stxZeroPageY zz => Sys2Proof.Machine.execStxZeroPageY zz s
  | .stxAbsolute addr => Sys2Proof.Machine.execStxAbsolute addr s
  | .styZeroPage zz => Sys2Proof.Machine.execStyZeroPage zz s
  | .styZeroPageX zz => Sys2Proof.Machine.execStyZeroPageX zz s
  | .styAbsolute addr => Sys2Proof.Machine.execStyAbsolute addr s
  -- Machine/Stack.lean
  | .pha => Sys2Proof.Machine.execPha s
  | .php => Sys2Proof.Machine.execPhp s
  | .pla => Sys2Proof.Machine.execPla s
  | .plp => Sys2Proof.Machine.execPlp s
  -- Machine/FlagsTransfer.lean
  | .sec => Sys2Proof.Machine.execSec s
  | .sed => Sys2Proof.Machine.execSed s
  | .sei => Sys2Proof.Machine.execSei s
  | .clc => Sys2Proof.Machine.execClc s
  | .cld => Sys2Proof.Machine.execCld s
  | .cli => Sys2Proof.Machine.execCli s
  | .clv => Sys2Proof.Machine.execClv s
  | .tax => Sys2Proof.Machine.execTax s
  | .tay => Sys2Proof.Machine.execTay s
  | .tsx => Sys2Proof.Machine.execTsx s
  | .txa => Sys2Proof.Machine.execTxa s
  | .txs => Sys2Proof.Machine.execTxs s
  | .tya => Sys2Proof.Machine.execTya s
  | .nop => Sys2Proof.Machine.execNop s

end Sys2Proof.Machine
end

