-- ==== Sys2Proof/Machine/Compose.lean ====
section
/-! DEFINITION. The executor on any mnemonic and operand (30_encoding.md rules R73, R80): the spec's 56 handlers.
On a pair of `STANDARD_TABLE` it is the instruction's meaning; a non-default table may give other pairs. -/

namespace Sys2Proof.Machine

/-- `execute(mn, ea, mode)` with the resolver's part (00_scope.md rule R14): the mnemonic selects the handler, the
operand's mode the effective address. -/
def handler (mn : Mnemonic) (op : Operand) (s : State) : State :=
  match mn with
  | .adc => runAdc op s
  | .sbc => runSbc op s
  | .and => runAnd op s
  | .ora => runOra op s
  | .eor => runEor op s
  | .bit => runBit op s
  | .cmp => runCmp op s
  | .cpx => runCpx op s
  | .cpy => runCpy op s
  | .asl => runAsl op s
  | .lsr => runLsr op s
  | .rol => runRol op s
  | .ror => runRor op s
  | .dec => runDec op s
  | .dex => runDex op s
  | .dey => runDey op s
  | .inc => runInc op s
  | .inx => runInx op s
  | .iny => runIny op s
  | .bcc => runBcc op s
  | .bcs => runBcs op s
  | .beq => runBeq op s
  | .bmi => runBmi op s
  | .bne => runBne op s
  | .bpl => runBpl op s
  | .bvc => runBvc op s
  | .bvs => runBvs op s
  | .jmp => runJmp op s
  | .jsr => runJsr op s
  | .rts => runRts op s
  | .rti => runRti op s
  | .brk => runBrk op s
  | .lda => runLda op s
  | .ldx => runLdx op s
  | .ldy => runLdy op s
  | .sta => runSta op s
  | .stx => runStx op s
  | .sty => runSty op s
  | .pha => runPha op s
  | .php => runPhp op s
  | .pla => runPla op s
  | .plp => runPlp op s
  | .sec => runSec op s
  | .sed => runSed op s
  | .sei => runSei op s
  | .clc => runClc op s
  | .cld => runCld op s
  | .cli => runCli op s
  | .clv => runClv op s
  | .tax => runTax op s
  | .tay => runTay op s
  | .tsx => runTsx op s
  | .txa => runTxa op s
  | .txs => runTxs op s
  | .tya => runTya op s
  | .nop => runNop op s

/-- Run a mnemonic and operand: the instruction's meaning when they are a row of `STANDARD_TABLE`, else the handler
(30_encoding.md rule R80, notes/assumptions/4.md). -/
def runPair (mn : Mnemonic) (op : Operand) (s : State) : Result :=
  match Instr.ofPair mn op with
  | some i => exec i s
  | none => .next (handler mn op s)

end Sys2Proof.Machine
end

