-- ==== Sys2Proof/Machine/Cycle.lean ====
section
/-! DEFINITION. The fetch unit and the whole fetch, decode and execute cycle (00_scope.md rule R14,
30_encoding.md rules R69 to R74), and placing an instruction where it is fetched. -/

namespace Sys2Proof.Machine

/-- The opcode byte (30_encoding.md rule R69). -/
def fetchOpcode (s : State) : Byte := s.read s.pc

/-- The three bytes at `PC`, the longest instruction (30_encoding.md rules R68, R71). -/
def bytesAtPC (s : State) : List Byte := [s.read s.pc, s.read (s.pc + 1), s.read (s.pc + 2)]

/-- Fetch and dispatch: the mnemonic and operand at `PC`; none for an opcode byte with no entry
(30_encoding.md rules R69 to R72, R74). -/
def fetch (s : State) : Option (Mnemonic × Operand) :=
  match s.cfg.opcodeTable (fetchOpcode s) with
  | some (mn, mode) => some (mn, mode.operandOf (s.read (s.pc + 1)) (s.read (s.pc + 2)))
  | none => none

/-- One step (00_scope.md rule R14): none from a halted state (60_exceptions.md rule R201), the fatal fault for an
unknown opcode (rule R200), else the instruction. -/
def cycle (s : State) : Result :=
  if s.halted then .fault .halted
  else
    match fetch s with
    | some (mn, op) => runPair mn op s
    | none => .fault (raiseUnknownOpcode (fetchOpcode s) s).1

/-- The state the block is in once a call of `step` is over: the next state, or the state its fault leaves
(60_exceptions.md rules R200, R201). -/
def stateAfter (s : State) : State :=
  match cycle s with
  | .next t => t
  | .fault (.unknownOpcode op _) => (raiseUnknownOpcode op s).2
  | .fault .halted => s
  | .refused _ => s

/-- Store an instruction's three bytes at `PC`, the first at the lowest address. -/
def placeInstruction (s : State) (b0 b1 b2 : Byte) : State :=
  ((s.write s.pc b0).write (s.pc + 1) b1).write (s.pc + 2) b2

end Sys2Proof.Machine
end

