-- ==== Sys2Proof/Machine/Step.lean ====
section
/-! DEFINITION. One step of the block (00_scope.md rules R12 to R14), and an instruction placed where the step
fetches it. -/

namespace Sys2Proof.Machine

/-- `step()` (00_scope.md rule R14). -/
def step (s : State) : Host.Outcome State Fault Refusal := cycle s

/-- The state with the instruction of bits `w` (spec/opcode_table.json's numbering, the bits from `nbits` on zero)
stored at `PC`, where the next step fetches. -/
def State.withFetchWord (s : State) (nbits w : Nat) : State :=
  placeInstruction s (tableWordByte nbits w 0) (tableWordByte nbits w 1) (tableWordByte nbits w 2)

end Sys2Proof.Machine
end

