-- ==== Sys2Proof/Machine/HostPort.lean ====
section
/-! DEFINITION. What the host can do to the block besides calling `step` (70_reset_and_hazards.md rules R220 to
R227): construct it over a memory image, and between steps change memory and registers. -/

namespace Sys2Proof.Machine

/-- Construction over the host's memory image, under given parameters (70_reset_and_hazards.md rules R220, R221). -/
def construct (cfg : Config) (image : Memory) : State := { State.reset with mem := image, cfg := cfg }

/-- A change the host makes between steps (70_reset_and_hazards.md rules R223, R225, R227). -/
inductive HostAction where
  /-- A byte of memory, through the host's own capability (rule R225). -/
  | writeByte (addr : Word) (v : Byte)
  /-- The registers, through the optional inspection extension (rules R223, R227). -/
  | setRegisters (a x y sp : Byte) (pc : Word) (p : Status)
deriving DecidableEq, Repr

/-- The state after a host's change; the halted bit is never among them (60_exceptions.md rule R201). -/
def applyHostAction (action : HostAction) (s : State) : State :=
  match action with
  | .writeByte addr v => s.write addr v
  | .setRegisters a x y sp pc p => { s with a := a, x := x, y := y, sp := sp, pc := pc, p := p }

/-- A launch state (70_reset_and_hazards.md rule R223): any registers and any image, not halted. -/
def launch (cfg : Config) (image : Memory) (a x y sp : Byte) (pc : Word) (p : Status) : State :=
  applyHostAction (.setRegisters a x y sp pc p) (construct cfg image)

end Sys2Proof.Machine
end

