-- ==== Sys2Proof/Machine/Trace.lean ====
section
/-! DEFINITION. The memory accesses of a step, in order (00_scope.md rule R17, 20_memory.md rules R57, R58,
40_addressing.md rules R86 to R99). Under RAM a step's result does not depend on them; a memory with side effects
would see exactly these. -/

namespace Sys2Proof.Machine

/-- One access of the block to memory. -/
inductive Access where
  | read (addr : Word)
  | write (addr : Word) (v : Byte)
deriving DecidableEq, Repr

/-- The two reads of `MemRead(addr, 2)`, the low byte first (20_memory.md rule R48). -/
def readsWord (addr : Word) : List Access := [.read addr, .read (addr + 1)]

/-- The resolver's reads (40_addressing.md rules R86 to R98). -/
def resolverAccesses (op : Operand) (s : State) : List Access :=
  match op with
  | .accumulator | .implied | .immediate _ => []
  | .zeroPage _ | .zeroPageX _ | .zeroPageY _ | .relative _ => [.read (s.pc + 1)]
  | .absolute _ | .absoluteX _ | .absoluteY _ => readsWord (s.pc + 1)
  | .indirect ptr => readsWord (s.pc + 1) ++ readsWord ptr
  | .indirectX zz => [.read (s.pc + 1)] ++ readsWord (zeroPageIndexed zz s.x)
  | .indirectY zz => [.read (s.pc + 1)] ++ readsWord (zext16 zz)

/-- A read-modify-write: one read, then one write (42_shift_rotate.md rule R120, 43_inc_dec.md). -/
def modifyAccesses (op : Operand) (r : Byte) (s : State) : List Access :=
  [.read (effectiveAddress op s), .write (effectiveAddress op s) r]

/-- A shift's accesses: none in Accumulator mode (42_shift_rotate.md rule R120). -/
def shiftAccesses (op : Operand) (r : Byte) (s : State) : List Access :=
  match op with
  | .accumulator => []
  | other => modifyAccesses other r s

/-- `k` stack reads from the byte above `S` on. -/
def pullAccesses (sp : Byte) (k : Nat) : List Access :=
  (List.range k).map fun j => .read (stackAddress (sp + 1 + BitVec.ofNat 8 j))

/-- The two stack writes of `push16`, the high byte first (20_memory.md rule R54). -/
def pushWordAccesses (sp : Byte) (w : Word) : List Access :=
  [.write (stackAddress sp) (hiByte w), .write (stackAddress (sp - 1)) (loByte w)]

/-- The executor's accesses (20_memory.md rule R58). -/
def executorAccesses (mn : Mnemonic) (op : Operand) (s : State) : List Access :=
  match mn with
  | .adc | .sbc | .and | .ora | .eor | .bit | .cmp | .cpx | .cpy | .lda | .ldx | .ldy =>
    [.read (effectiveAddress op s)]
  | .sta => [.write (effectiveAddress op s) s.a]
  | .stx => [.write (effectiveAddress op s) s.x]
  | .sty => [.write (effectiveAddress op s) s.y]
  | .asl => shiftAccesses op (asl8 (shiftOperand op s)).1 s
  | .lsr => shiftAccesses op (lsr8 (shiftOperand op s)).1 s
  | .rol => shiftAccesses op (rol8 (shiftOperand op s) s.p.c).1 s
  | .ror => shiftAccesses op (ror8 (shiftOperand op s) s.p.c).1 s
  | .inc => modifyAccesses op (operandByte op s + 1) s
  | .dec => modifyAccesses op (operandByte op s - 1) s
  | .jsr => pushWordAccesses s.sp (nextPC op s - 1)
  | .rts => pullAccesses s.sp (if s.cfg.rtsPullsStatus then 3 else 2)
  | .rti => pullAccesses s.sp 3
  | .brk =>
    if s.cfg.brkMaskedByI && s.p.i then []
    else
      pushWordAccesses s.sp (nextPC op s) ++ [.write (stackAddress (s.sp - 2)) (pack s.p ||| 0x10)] ++
        readsWord brkVector
  | .pha => [.write (stackAddress s.sp) s.a]
  | .php => [.write (stackAddress s.sp) (pack s.p)]
  | .pla | .plp => pullAccesses s.sp 1
  | .bcc | .bcs | .beq | .bmi | .bne | .bpl | .bvc | .bvs | .jmp => []
  | .dex | .dey | .inx | .iny => []
  | .sec | .sed | .sei | .clc | .cld | .cli | .clv => []
  | .tax | .tay | .tsx | .txa | .txs | .tya | .nop => []

/-- A step's accesses: the opcode byte, then the resolver's, then the executor's (20_memory.md rule R58); the opcode
byte alone when it is unknown (60_exceptions.md rule R200), nothing from a halted state (rule R201). -/
def stepAccesses (s : State) : List Access :=
  if s.halted then []
  else
    .read s.pc ::
      match fetch s with
      | some (mn, op) => resolverAccesses op s ++ executorAccesses mn op s
      | none => []

/-- Memory after a list of accesses. -/
def replay (accesses : List Access) (m : Memory) : Memory :=
  match accesses with
  | [] => m
  | .read _ :: rest => replay rest m
  | .write addr v :: rest => replay rest (m.write addr.toNat v)

end Sys2Proof.Machine
end

