-- ==== Sys2Proof/Safety.lean ====
section
/-! DEFINITION. The terms claims use: what each instruction may write (10_state.md rules R21 to R24, R33), what it
stores to, the invariant of the block, and how a run ends (70_reset_and_hazards.md rule R224). -/

namespace Sys2Proof.Machine

/-! ### What an instruction writes -/

/-- The instructions that write `A` (10_state.md rule R21). -/
def writesA (i : Instr) : Bool :=
  match i.mnemonic with
  | .adc | .sbc | .and | .ora | .eor | .lda | .pla | .txa | .tya => true
  | .asl | .lsr | .rol | .ror => i.operand.mode == .accumulator
  | _ => false

/-- The instructions that write `X` (10_state.md rule R22). -/
def writesX (i : Instr) : Bool := [.ldx, .dex, .inx, .tax, .tsx].contains i.mnemonic

/-- The instructions that write `Y` (10_state.md rule R22). -/
def writesY (i : Instr) : Bool := [.ldy, .dey, .iny, .tay].contains i.mnemonic

/-- BRK takes its trap from this state (44_control_transfer.md rule R155). -/
def brkTraps (s : State) : Bool := !(s.cfg.brkMaskedByI && s.p.i)

/-- The instructions that write `S` (10_state.md rule R24). -/
def writesSP (i : Instr) (s : State) : Bool :=
  match i.mnemonic with
  | .pha | .php | .pla | .plp | .jsr | .rts | .rti | .txs => true
  | .brk => brkTraps s
  | _ => false

/-- The mnemonics that write a flag, under the default parameters (10_state.md rule R33). -/
def Flag.writers : Flag → List Mnemonic
  | .c => [.adc, .sbc, .cmp, .cpx, .cpy, .asl, .lsr, .rol, .ror, .sec, .clc, .plp, .rti]
  | .z =>
    [.adc, .sbc, .and, .ora, .eor, .asl, .lsr, .rol, .ror, .cmp, .cpx, .cpy, .dec, .dex, .dey, .inc, .inx, .iny,
      .lda, .ldx, .ldy, .pla, .tax, .tay, .tsx, .txa, .tya, .bit, .plp, .rti]
  | .i => [.sei, .cli, .plp, .rti]
  | .d => [.sed, .cld, .plp, .rti]
  | .b => [.plp, .rti]
  | .v => [.adc, .sbc, .bit, .clv, .plp, .rti]
  | .n =>
    [.adc, .sbc, .and, .ora, .eor, .asl, .lsr, .rol, .ror, .cmp, .cpx, .cpy, .dec, .dex, .dey, .inc, .inx, .iny,
      .lda, .ldx, .ldy, .pla, .tax, .tay, .tsx, .txa, .tya, .bit, .plp, .rti]

/-- An instruction may write a flag: rule R33, and what the parameters add (RTS under `RTS_PULLS_STATUS`, a trapping
BRK under `BRK_SETS_I`). -/
def writesFlag (i : Instr) (f : Flag) (s : State) : Bool :=
  f.writers.contains i.mnemonic ||
    (i.mnemonic == .rts && s.cfg.rtsPullsStatus) ||
    (i.mnemonic == .brk && f == .i && s.cfg.brkSetsI && brkTraps s)

/-- The addresses an instruction stores to: its effective address, or its stack bytes. -/
def storesTo (i : Instr) (s : State) : List Word :=
  match i.mnemonic with
  | .sta | .stx | .sty | .inc | .dec => [effectiveAddress i.operand s]
  | .asl | .lsr | .rol | .ror =>
    if i.operand.mode = .accumulator then [] else [effectiveAddress i.operand s]
  | .pha | .php => [stackAddress s.sp]
  | .jsr => [stackAddress s.sp, stackAddress (s.sp - 1)]
  | .brk =>
    if brkTraps s then [stackAddress s.sp, stackAddress (s.sp - 1), stackAddress (s.sp - 2)] else []
  | _ => []

/-! ### The invariant -/

/-- What every state of a run meets: memory is in canonical form and the block is not halted. -/
def Inv (s : State) : Prop := s.mem.wf = true ∧ s.halted = false

/-! ### Runs -/

/-- How a run of at most so many steps ends (70_reset_and_hazards.md rule R224). -/
inductive RunEnd where
  /-- `PC` was the stop address at the start of a step. -/
  | stopped (s : State)
  /-- A step raised the fatal fault; the state it left. Never a normal end. -/
  | faulted (f : Fault) (s : State)
  /-- A step was refused (none is). -/
  | refused (r : Refusal)
  /-- Every step succeeded and the stop address was not reached yet. -/
  | going (s : State)
deriving DecidableEq, Repr

/-- Run until `PC` is the stop address, a step faults, or the steps are used up. -/
def runUntil (stop : Word) : Nat → State → RunEnd
  | 0, s => if s.pc = stop then .stopped s else .going s
  | k + 1, s =>
    if s.pc = stop then .stopped s
    else
      match step s with
      | .next t => runUntil stop k t
      | .fault f => .faulted f (stateAfter s)
      | .refused r => .refused r

/-- An unbounded run: every step succeeds and the stop address is never reached (rule R224). -/
def Unbounded (stop : Word) (s : State) : Prop := ∀ k, ∃ t, runUntil stop k s = .going t

/-- A safe run: no number of steps meets a fault. -/
def Safe (s : State) : Prop := ∀ k, ∃ t, Sys2Proof.core.run k s = .next t

end Sys2Proof.Machine
end

