-- ==== Sys2Proof/Certificates/Slice0/Obligations.lean ====
section
/-! DEFINITION. The statements for the provers. Each says in its docstring which rule of spec/ it formalises. Where a
statement rests on a decision the spec marks as its own (D<n> of 92_eei_decisions.md), the docstring names it. -/

open Sys2Proof Sys2Proof.Machine

namespace Sys2Proof.Rules

/-- Every instruction of a mnemonic, in every state and on every operand, completes with the given effect. -/
def Completes (mn : Mnemonic) (effect : Instr → State → State) : Prop :=
  ∀ (i : Instr) (s : State), i.mnemonic = mn → exec i s = .next (effect i s)

/-- `STANDARD_TABLE` gives a mnemonic exactly these opcode bytes, each with this mode. -/
def EncodedAs (mn : Mnemonic) (rows : List (Byte × Mode)) : Prop :=
  ∀ (b : Byte) (mode : Mode), standardTable b = some (mn, mode) ↔ (b, mode) ∈ rows

/-- The address of the next instruction. -/
def next (i : Instr) (s : State) : Word := s.pc + BitVec.ofNat 16 i.length

/-- The operand `M` of an instruction. -/
def M (i : Instr) (s : State) : Byte := operandByte i.operand s

/-- The effective address `ea` of an instruction. -/
def ea (i : Instr) (s : State) : Word := effectiveAddress i.operand s

/-- A status with Z and N from a byte. -/
def zn (v : Byte) (p : Status) : Status := { p with z := decide (v = 0), n := v[7] }

/-- The operand a mode takes from the bytes after the opcode at `PC`. -/
def operandAtPC (mode : Mode) (s : State) : Operand := mode.operandOf (s.read (s.pc + 1)) (s.read (s.pc + 2))

/-- A mode resolves, on the bytes at `PC`, to an effective address, with `PC` advanced by a length and nothing else
changed, making exactly the given reads in order. -/
def ResolvesTo (mode : Mode) (ea : State → Word) (length : Word) (accesses : State → List Access) : Prop :=
  ∀ s : State, resolve (operandAtPC mode s) s = (ea s, { s with pc := s.pc + length }) ∧
    resolverAccesses (operandAtPC mode s) s = accesses s

/-- The little-endian word at an address, by its two bytes. -/
def littleEndian (s : State) (addr : Word) : Word := (zext16 (s.read (addr + 1)) <<< 8) ||| zext16 (s.read addr)

/-- A state with the D flag given. -/
def withD (b : Bool) (s : State) : State := { s with p := { s.p with d := b } }

end Sys2Proof.Rules

open Sys2Proof.Rules

/-! ### Reset, the invariant, the parameters -/

/-- Rules R36, R220 and R221: construction is the only reset; memory is what the host supplies. It claims nothing of what
State.reset lists in memory, which is the model's choice (log 1). The halted bit and that nothing else resets are the
spec's own decisions D16 and D19. -/
def Obligations.ConstructionZeroesEveryRegister : Prop :=
  (∀ (cfg : Config) (image : Memory),
    construct cfg image =
      { a := 0x00, x := 0x00, y := 0x00, sp := 0x00, pc := 0x0000
        p := { c := false, z := false, i := false, d := false, b := false, v := false, n := false }
        halted := false, mem := image, cfg := cfg } ∧
    pack (construct cfg image).p = 0x20 ∧
    bytesAtPC (construct cfg image) = [image.read 0, image.read 1, image.read 2]) ∧
  State.reset = construct State.reset.cfg State.reset.mem

/-- The invariant of `StepKeepsInvariant` holds at reset. The canonical form is the model's (log 1). -/
def Obligations.ResetMeetsInvariant : Prop :=
  Inv State.reset

/-- The memory stays a canonical list whatever instruction runs, a pair outside `STANDARD_TABLE` included, and `halted` is
set by no step that has a next state (10_state.md rule R27). -/
def Obligations.StepKeepsInvariant : Prop :=
  ∀ s t : State, Inv s → step s = .next t → Inv t

/-- Rules R9 and R11: the parameters are fixed for a run. That they stand in State is the model's choice (log 3). -/
def Obligations.StepNeverChangesParameters : Prop :=
  ∀ s t : State, step s = .next t → t.cfg = s.cfg

/-! ### Words and the stack -/

/-- Rules R47 to R49 and R51. The order of the two accesses is the spec's own decision D15. -/
def Obligations.WordAccessesAreLittleEndian : Prop :=
  ∀ (s : State) (addr w : Word),
    s.readWord addr = littleEndian s addr ∧
    readsWord addr = [.read addr, .read (addr + 1)] ∧
    s.writeWord addr w = (s.write addr (w.extractLsb' 0 8)).write (addr + 1) (w.extractLsb' 8 8) ∧
    (s.writeWord addr w).readWord addr = w

/-- Rules R52 and R53. That a push writes before it decrements is the spec's own decision D3. -/
def Obligations.StackByteHelpers : Prop :=
  ∀ (v : Byte) (s : State),
    push8 v s = { s with mem := s.mem.write (0x0100 + zext16 s.sp).toNat v, sp := s.sp - 1 } ∧
    pull8 s = (s.read (0x0100 + zext16 (s.sp + 1)), { s with sp := s.sp + 1 })

/-- Rule R54. That the high byte is pushed first is the spec's own decision D2. -/
def Obligations.StackWordLayout : Prop :=
  ∀ (w : Word) (s : State),
    let t := push16 w s
    t.sp = s.sp - 2 ∧
    t.read (0x0100 + zext16 (t.sp + 1)) = w.extractLsb' 0 8 ∧
    t.read (0x0100 + zext16 (t.sp + 2)) = w.extractLsb' 8 8 ∧
    (∀ addr, addr ≠ 0x0100 + zext16 (t.sp + 1) → addr ≠ 0x0100 + zext16 (t.sp + 2) → t.read addr = s.read addr) ∧
    t = { s with sp := t.sp, mem := t.mem }

/-- Rule R55, and the source's round-trip property quoted in rule R53, at every S, the wrapping ones included. -/
def Obligations.StackWordRoundTrip : Prop :=
  ∀ (w : Word) (s : State), pull16 (push16 w s) = (w, { push16 w s with sp := s.sp })

/-- Rule R56. The helpers answer a state, so none can fault. Which byte goes where rests on the spec's own decisions D2
and D3. -/
def Obligations.StackNeverLeavesPageOne : Prop :=
  (∀ sp : Byte, 0x0100 ≤ (stackAddress sp).toNat ∧ (stackAddress sp).toNat ≤ 0x01FF) ∧
  (∀ (v : Byte) (s : State), push8 v { s with sp := 0x00 } = { s.write 0x0100 v with sp := 0xFF }) ∧
  (∀ s : State, pull8 { s with sp := 0xFF } = (s.read 0x0100, { s with sp := 0x00 })) ∧
  (∀ (w : Word) (s : State), push16 w { s with sp := 0x00 } =
    { (s.write 0x0100 (w.extractLsb' 8 8)).write 0x01FF (w.extractLsb' 0 8) with sp := 0xFE })

/-! ### The status byte and the flag update logic -/

/-- Rules R25, R26 and R32. The bit positions, rule R25's, are the spec's own decision D18. -/
def Obligations.PackedStatusForcesBitFive : Prop :=
  (∀ p : Status, (pack p)[0] = p.c ∧ (pack p)[1] = p.z ∧ (pack p)[2] = p.i ∧ (pack p)[3] = p.d ∧
    (pack p)[4] = p.b ∧ (pack p)[5] = true ∧ (pack p)[6] = p.v ∧ (pack p)[7] = p.n ∧ unpack (pack p) = p) ∧
  (∀ b : Byte, pack (unpack b) = b ||| 0x20 ∧
    unpack b = { c := b[0], z := b[1], i := b[2], d := b[3], b := b[4], v := b[6], n := b[7] })

/-- Rule R28, read through `contains` of rule R29. -/
def Obligations.SetWritesExactlyOneFlag : Prop :=
  ∀ (p : Status) (f g : Flag) (value : Bool), (p.set f value).get g = if g = f then value else p.get g

/-- Rule R101. -/
def Obligations.AdderIsExactSum : Prop :=
  ∀ (a b : Byte) (cin : Bool),
    (add8 a b cin).result.toNat + 256 * (add8 a b cin).carry.toNat = a.toNat + b.toNat + cin.toNat ∧
    ((add8 a b cin).carry = true ↔ 256 ≤ a.toNat + b.toNat + cin.toNat) ∧
    ((add8 a b cin).overflow = true ↔ a[7] = b[7] ∧ (add8 a b cin).result[7] ≠ a[7]) ∧
    (add8 a b cin).overflow = ((a ^^^ (add8 a b cin).result) &&& (b ^^^ (add8 a b cin).result))[7]

/-- Rule R103. -/
def Obligations.CompareIsUnsignedDifference : Prop :=
  ∀ r m : Byte, (cmp8 r m).1 = r - m ∧ (cmp8 r m).1 = r + (~~~m + 1) ∧ ((cmp8 r m).2 = true ↔ m ≤ r) ∧
    (cmp8 r 0x00).2 = true

/-- Rules R34 and R102: nothing reads D as a condition. That arithmetic is always binary is the spec's own decision D13. PHP
and a trapping BRK store D in the pushed byte; StackInstructionsMoveOneByte and BrkTrapsUnlessMasked state them whole. -/
def Obligations.DecimalFlagHasNoEffect : Prop :=
  ∀ (i : Instr) (s t : State) (b : Bool), i.mnemonic ≠ .php → i.mnemonic ≠ .brk → exec i s = .next t →
    exec i (withD b s) = .next (if writesFlag i .d s then t else withD b t)

/-! ### Decoding and encoding -/

/-- Rules R67, R68, R72, R77 and R78. Every constructor of Instr is well formed (`Instr.wellFormed`), so none is shut out. -/
def Obligations.DecodeInvertsEncode : Prop :=
  ∀ (i : Instr) (rest : List Byte), decode (encode i ++ rest) = .instr i rest

/-- Rules R67, R68, R72, R77 and R78, the other direction. -/
def Obligations.EncodeInvertsDecode : Prop :=
  ∀ (bytes : List Byte) (i : Instr) (rest : List Byte), decode bytes = .instr i rest → bytes = encode i ++ rest

/-- Rules R9 and R72: the table is a parameter. -/
def Obligations.DecodeInvertsEncodeUnderAnyTable : Prop :=
  ∀ (cfg : Config) (i : Instr) (bytes rest : List Byte), encodeWith cfg i = some bytes →
    decodeWith cfg (bytes ++ rest) = .instr i rest

/-- The opcode values are the spec's default table, which it marks as general knowledge (rule R77, decision D5). -/
def Obligations.SampleWordsDecode : Prop :=
  decode [0b01101001, 0x42] = .instr (.adcImmediate 0x42) [] ∧
  decode [0b01101110, 0x34, 0x12] = .instr (.rorAbsolute 0x1234) [] ∧
  decode [0b11110110, 0x80] = .instr (.incZeroPageX 0x80) [] ∧
  decode [0b11110000, 0xFE] = .instr (.beq 0xFE) [] ∧
  decode [0b01101100, 0xFF, 0x10] = .instr (.jmpIndirect 0x10FF) [] ∧
  decode [0b10110001, 0xF0] = .instr (.ldaIndirectY 0xF0) [] ∧
  decode [0b00001000] = .instr .php [] ∧
  decode [0b10011010] = .instr .txs []

/-- Rules R74, R79 and R200, of rule R79 which bytes have no entry and that these fault. The table's contents are the
spec's own decision D5, the address in the fault D16. -/
def Obligations.UndocumentedBytesHaveNoEntry : Prop :=
  (∀ b : Byte, standardTable b = none ↔ b ∈ ([
      0x02, 0x03, 0x04, 0x07, 0x0B, 0x0C, 0x0F, 0x12, 0x13, 0x14, 0x17, 0x1A, 0x1B, 0x1C, 0x1F, 0x22,
      0x23, 0x27, 0x2B, 0x2F, 0x32, 0x33, 0x34, 0x37, 0x3A, 0x3B, 0x3C, 0x3F, 0x42, 0x43, 0x44, 0x47,
      0x4B, 0x4F, 0x52, 0x53, 0x54, 0x57, 0x5A, 0x5B, 0x5C, 0x5F, 0x62, 0x63, 0x64, 0x67, 0x6B, 0x6F,
      0x72, 0x73, 0x74, 0x77, 0x7A, 0x7B, 0x7C, 0x7F, 0x80, 0x82, 0x83, 0x87, 0x89, 0x8B, 0x8F, 0x92,
      0x93, 0x97, 0x9B, 0x9C, 0x9E, 0x9F, 0xA3, 0xA7, 0xAB, 0xAF, 0xB2, 0xB3, 0xB7, 0xBB, 0xBF, 0xC2,
      0xC3, 0xC7, 0xCB, 0xCF, 0xD2, 0xD3, 0xD4, 0xD7, 0xDA, 0xDB, 0xDC, 0xDF, 0xE2, 0xE3, 0xE7, 0xEB,
      0xEF, 0xF2, 0xF3, 0xF4, 0xF7, 0xFA, 0xFB, 0xFC, 0xFF] : List Byte)) ∧
  (∀ s : State, s.halted = false → s.cfg.tableChanges = [] → standardTable (s.read s.pc) = none →
    step s = .fault (.unknownOpcode (s.read s.pc) s.pc))

/-- Rule R68. -/
def Obligations.LengthIsFixedByMode : Prop :=
  (∀ mode : Mode, mode.operandBytes =
    if mode ∈ [.accumulator, .implied] then 0
    else if mode ∈ [.absolute, .absoluteX, .absoluteY, .indirect] then 2 else 1) ∧
  (∀ i : Instr, (encode i).length = 1 + i.operand.mode.operandBytes ∧ i.length = (encode i).length) ∧
  (∀ (i : Instr) (v : Byte), i.operand ∈ ([.immediate v, .zeroPage v, .zeroPageX v, .zeroPageY v, .relative v,
      .indirectX v, .indirectY v] : List Operand) → (encode i).tail = [v]) ∧
  (∀ (i : Instr) (w : Word), i.operand ∈ ([.absolute w, .absoluteX w, .absoluteY w, .indirect w] : List Operand) →
    (encode i).tail = [w.extractLsb' 0 8, w.extractLsb' 8 8]) ∧
  (∀ i : Instr, i.operand ∈ ([.accumulator, .implied] : List Operand) → (encode i).tail = [])

/-! ### The step -/

/-- Rule R14, the top-level step, and rule R80, whose composition is the spec's own decision D20. That the model runs such a
pair, where it may refuse it, is its choice (log 4). -/
def Obligations.StepRunsDecodedInstruction : Prop :=
  (∀ (s : State) (i : Instr) (rest : List Byte), s.halted = false → i.wellFormed = true →
    decodeWith s.cfg [s.read s.pc, s.read (s.pc + 1), s.read (s.pc + 2)] = .instr i rest → step s = exec i s) ∧
  (∀ (s : State) (mn : Mnemonic) (op : Operand), s.halted = false →
    decodeWith s.cfg [s.read s.pc, s.read (s.pc + 1), s.read (s.pc + 2)] = .reject (.nonStandardPair mn op) →
    step s = .next (handler mn op s))

/-- Rules R70, R74 and R200. That PC is not advanced and the block halts is the spec's own decision D16. -/
def Obligations.UnknownOpcodeIsFatal : Prop :=
  ∀ s : State, s.halted = false → s.cfg.opcodeTable (s.read s.pc) = none →
    step s = .fault (.unknownOpcode (s.read s.pc) s.pc) ∧
    stepAccesses s = [.read s.pc] ∧ stateAfter s = { s with halted := true }

/-- Rule R201, the spec's own decision D16. The name of the fault is the model's choice (log 2). -/
def Obligations.HaltedBlockHasNoStep : Prop :=
  ∀ (s : State) (action : HostAction), s.halted = true →
    step s = .fault .halted ∧ stepAccesses s = [] ∧ stateAfter s = s ∧ (applyHostAction action s).halted = true

/-- Rules R200 and R202. That an entry outside `STANDARD_TABLE` runs too, where rule R80 and the spec's own decision D20
let a model refuse it, is the model's choice (log 4). The fault's address is the spec's own decision D16. -/
def Obligations.OnlyUnknownOpcodesStopARunningBlock : Prop :=
  ∀ s : State, s.halted = false →
    ((∃ t, step s = .next t) ↔ s.cfg.opcodeTable (s.read s.pc) ≠ none) ∧
    ((∃ t, step s = .next t) ∨ step s = .fault (.unknownOpcode (s.read s.pc) s.pc))

/-- Rules R14, R73 and R76: dispatch is a mapping from the mnemonic to one of 56 handlers. -/
def Obligations.ExecIsHandlerOnResolvedOperand : Prop :=
  ∀ (i : Instr) (s : State), exec i s = .next (handler i.mnemonic i.operand s)

/-- Rules R88 and R109: the executor reads memory at the effective address. The instruction carries the byte the fetch read
(log 7); this says that it is the same byte. -/
def Obligations.OperandIsByteAtEffectiveAddress : Prop :=
  ∀ (s : State) (i : Instr) (rest : List Byte),
    decodeWith s.cfg [s.read s.pc, s.read (s.pc + 1), s.read (s.pc + 2)] = .instr i rest →
    operandByte i.operand s = s.read (effectiveAddress i.operand s)

/-! ### The addressing resolver -/

/-- Rules R87, R88 and R95, and rule R86 but for what the instruction does with `A`; `PC` here is the address of the opcode. -/
def Obligations.UnindexedAndRelativeModesResolve : Prop :=
  ResolvesTo .accumulator (fun _ => 0x0000) 1 (fun _ => []) ∧
  ResolvesTo .implied (fun _ => 0x0000) 1 (fun _ => []) ∧
  ResolvesTo .immediate (fun s => s.pc + 1) 2 (fun _ => []) ∧
  ResolvesTo .relative (fun s => s.pc + 2 + (s.read (s.pc + 1)).signExtend 16) 2 (fun s => [.read (s.pc + 1)]) ∧
  (∀ (mn : Mnemonic) (v : Byte) (s : State),
    mn ∈ ([.adc, .sbc, .and, .ora, .eor, .bit, .cmp, .cpx, .cpy, .lda, .ldx, .ldy] : List Mnemonic) →
    executorAccesses mn (.immediate v) s = [.read (s.pc + 1)]) ∧
  (∀ (b : Byte) (mn : Mnemonic), standardTable b = some (mn, .relative) →
    mn ∈ ([.bcc, .bcs, .beq, .bmi, .bne, .bpl, .bvc, .bvs] : List Mnemonic))

/-- Rules R89, R90 and R91. -/
def Obligations.ZeroPageModesResolve : Prop :=
  ResolvesTo .zeroPage (fun s => (s.read (s.pc + 1)).setWidth 16) 2 (fun s => [.read (s.pc + 1)]) ∧
  ResolvesTo .zeroPageX (fun s => (s.read (s.pc + 1) + s.x).setWidth 16) 2 (fun s => [.read (s.pc + 1)]) ∧
  ResolvesTo .zeroPageY (fun s => (s.read (s.pc + 1) + s.y).setWidth 16) 2 (fun s => [.read (s.pc + 1)]) ∧
  (∀ (b : Byte) (mn : Mnemonic), standardTable b = some (mn, .zeroPageY) ↔ (b, mn) ∈ [(0xB6, .ldx), (0x96, .stx)])

/-- Rules R92, R93 and R94. -/
def Obligations.AbsoluteModesResolve : Prop :=
  ResolvesTo .absolute (fun s => littleEndian s (s.pc + 1)) 3
    (fun s => [.read (s.pc + 1), .read (s.pc + 2)]) ∧
  ResolvesTo .absoluteX (fun s => littleEndian s (s.pc + 1) + s.x.setWidth 16) 3
    (fun s => [.read (s.pc + 1), .read (s.pc + 2)]) ∧
  ResolvesTo .absoluteY (fun s => littleEndian s (s.pc + 1) + s.y.setWidth 16) 3
    (fun s => [.read (s.pc + 1), .read (s.pc + 2)])

/-- Rules R96, R97 and R98. -/
def Obligations.IndirectModesResolve : Prop :=
  ResolvesTo .indirect (fun s => littleEndian s (littleEndian s (s.pc + 1))) 3
    (fun s => [.read (s.pc + 1), .read (s.pc + 2), .read (littleEndian s (s.pc + 1)),
      .read (littleEndian s (s.pc + 1) + 1)]) ∧
  ResolvesTo .indirectX (fun s => littleEndian s ((s.read (s.pc + 1) + s.x).setWidth 16)) 2
    (fun s => [.read (s.pc + 1), .read ((s.read (s.pc + 1) + s.x).setWidth 16),
      .read ((s.read (s.pc + 1) + s.x).setWidth 16 + 1)]) ∧
  ResolvesTo .indirectY (fun s => littleEndian s ((s.read (s.pc + 1)).setWidth 16) + s.y.setWidth 16) 2
    (fun s => [.read (s.pc + 1), .read ((s.read (s.pc + 1)).setWidth 16),
      .read ((s.read (s.pc + 1)).setWidth 16 + 1)]) ∧
  (∀ (b : Byte) (mn : Mnemonic), standardTable b = some (mn, .indirect) → mn = .jmp)

/-! ### The instructions: results, with the frame said by the whole next state -/

/-- Rule R104, with the opcodes it lists; D is not read. -/
def Obligations.AdcAddsWithCarry : Prop :=
  EncodedAs .adc [(0x69, .immediate), (0x65, .zeroPage), (0x75, .zeroPageX), (0x6D, .absolute), (0x7D, .absoluteX), (0x79, .absoluteY), (0x61, .indirectX), (0x71, .indirectY)] ∧
  Completes .adc fun i s =>
    let sum := s.a.toNat + (M i s).toNat + s.p.c.toNat
    let r : Byte := BitVec.ofNat 8 sum
    { s with
      pc := next i s
      a := r
      p := zn r { s.p with c := decide (256 ≤ sum), v := s.a[7] == (M i s)[7] && r[7] != s.a[7] } }

/-- Rule R105, by its arithmetic reading. That V is the signed overflow of the difference is the spec's own decision D26. -/
def Obligations.SbcSubtractsWithBorrow : Prop :=
  EncodedAs .sbc [(0xE9, .immediate), (0xE5, .zeroPage), (0xF5, .zeroPageX), (0xED, .absolute), (0xFD, .absoluteX), (0xF9, .absoluteY), (0xE1, .indirectX), (0xF1, .indirectY)] ∧
  Completes .sbc fun i s =>
    let borrow := (!s.p.c).toNat
    let r : Byte := s.a - M i s - BitVec.ofNat 8 borrow
    let exact : Int := s.a.toInt - (M i s).toInt - borrow
    { s with
      pc := next i s
      a := r
      p := zn r { s.p with
        c := decide ((M i s).toNat + borrow ≤ s.a.toNat)
        v := decide (exact < -128 ∨ 127 < exact) } }

/-- Rules R106, R107 and R108, with the opcodes they list. -/
def Obligations.LogicInstructionsCombineIntoA : Prop :=
  EncodedAs .and [(0x29, .immediate), (0x25, .zeroPage), (0x35, .zeroPageX), (0x2D, .absolute), (0x3D, .absoluteX), (0x39, .absoluteY), (0x21, .indirectX), (0x31, .indirectY)] ∧
  (Completes .and fun i s =>
    { s with pc := next i s, a := s.a &&& M i s, p := zn (s.a &&& M i s) s.p }) ∧
  EncodedAs .ora [(0x09, .immediate), (0x05, .zeroPage), (0x15, .zeroPageX), (0x0D, .absolute), (0x1D, .absoluteX), (0x19, .absoluteY), (0x01, .indirectX), (0x11, .indirectY)] ∧
  (Completes .ora fun i s =>
    { s with pc := next i s, a := s.a ||| M i s, p := zn (s.a ||| M i s) s.p }) ∧
  EncodedAs .eor [(0x49, .immediate), (0x45, .zeroPage), (0x55, .zeroPageX), (0x4D, .absolute), (0x5D, .absoluteX), (0x59, .absoluteY), (0x41, .indirectX), (0x51, .indirectY)] ∧
  (Completes .eor fun i s =>
    { s with pc := next i s, a := s.a ^^^ M i s, p := zn (s.a ^^^ M i s) s.p })

/-- Rule R110, with the opcodes it lists. -/
def Obligations.BitTestsTheOperand : Prop :=
  EncodedAs .bit [(0x24, .zeroPage), (0x2C, .absolute)] ∧
  Completes .bit fun i s =>
    { s with
      pc := next i s
      p := { s.p with n := (M i s)[7], v := (M i s)[6], z := decide (M i s &&& s.a = 0) } }

/-- Rules R111, R112 and R113, with the opcodes they list. -/
def Obligations.ComparesSetCarryZeroNegative : Prop :=
  EncodedAs .cmp [(0xC9, .immediate), (0xC5, .zeroPage), (0xD5, .zeroPageX), (0xCD, .absolute), (0xDD, .absoluteX), (0xD9, .absoluteY), (0xC1, .indirectX), (0xD1, .indirectY)] ∧
  (Completes .cmp fun i s =>
    { s with pc := next i s, p := zn (s.a - M i s) { s.p with c := decide (M i s ≤ s.a) } }) ∧
  EncodedAs .cpx [(0xE0, .immediate), (0xE4, .zeroPage), (0xEC, .absolute)] ∧
  (Completes .cpx fun i s =>
    { s with pc := next i s, p := zn (s.x - M i s) { s.p with c := decide (M i s ≤ s.x) } }) ∧
  EncodedAs .cpy [(0xC0, .immediate), (0xC4, .zeroPage), (0xCC, .absolute)] ∧
  (Completes .cpy fun i s =>
    { s with pc := next i s, p := zn (s.y - M i s) { s.p with c := decide (M i s ≤ s.y) } })

/-- Rules R121 to R124, with the opcodes they list. -/
def Obligations.ShiftsMoveOneBit : Prop :=
  EncodedAs .asl [(0x0A, .accumulator), (0x06, .zeroPage), (0x16, .zeroPageX), (0x0E, .absolute), (0x1E, .absoluteX)] ∧
  EncodedAs .lsr [(0x4A, .accumulator), (0x46, .zeroPage), (0x56, .zeroPageX), (0x4E, .absolute), (0x5E, .absoluteX)] ∧
  EncodedAs .rol [(0x2A, .accumulator), (0x26, .zeroPage), (0x36, .zeroPageX), (0x2E, .absolute), (0x3E, .absoluteX)] ∧
  EncodedAs .ror [(0x6A, .accumulator), (0x66, .zeroPage), (0x76, .zeroPageX), (0x6E, .absolute), (0x7E, .absoluteX)] ∧
  (∀ s : State, exec .aslAccumulator s = .next (
    let v := s.a
    let r := (v <<< 1)
    { s with pc := s.pc + 1, a := r, p := zn r { s.p with c := v[7] } })) ∧
  (∀ (i : Instr) (s : State), i.mnemonic = .asl → i.operand ≠ .accumulator → exec i s = .next (
    let v := s.read (ea i s)
    let r := (v <<< 1)
    { s.write (ea i s) r with pc := next i s, p := zn r { s.p with c := v[7] } })) ∧
  (∀ s : State, exec .lsrAccumulator s = .next (
    let v := s.a
    let r := (v >>> 1)
    { s with pc := s.pc + 1, a := r, p := zn r { s.p with c := v[0] } })) ∧
  (∀ (i : Instr) (s : State), i.mnemonic = .lsr → i.operand ≠ .accumulator → exec i s = .next (
    let v := s.read (ea i s)
    let r := (v >>> 1)
    { s.write (ea i s) r with pc := next i s, p := zn r { s.p with c := v[0] } })) ∧
  (∀ s : State, exec .rolAccumulator s = .next (
    let v := s.a
    let r := ((v <<< 1) ||| (BitVec.ofBool s.p.c).setWidth 8)
    { s with pc := s.pc + 1, a := r, p := zn r { s.p with c := v[7] } })) ∧
  (∀ (i : Instr) (s : State), i.mnemonic = .rol → i.operand ≠ .accumulator → exec i s = .next (
    let v := s.read (ea i s)
    let r := ((v <<< 1) ||| (BitVec.ofBool s.p.c).setWidth 8)
    { s.write (ea i s) r with pc := next i s, p := zn r { s.p with c := v[7] } })) ∧
  (∀ s : State, exec .rorAccumulator s = .next (
    let v := s.a
    let r := ((v >>> 1) ||| ((BitVec.ofBool s.p.c).setWidth 8 <<< 7))
    { s with pc := s.pc + 1, a := r, p := zn r { s.p with c := v[0] } })) ∧
  (∀ (i : Instr) (s : State), i.mnemonic = .ror → i.operand ≠ .accumulator → exec i s = .next (
    let v := s.read (ea i s)
    let r := ((v >>> 1) ||| ((BitVec.ofBool s.p.c).setWidth 8 <<< 7))
    { s.write (ea i s) r with pc := next i s, p := zn r { s.p with c := v[0] } }))

/-- Rules R130 and R133, with the opcodes they list. -/
def Obligations.MemoryCountersWrap : Prop :=
  EncodedAs .dec [(0xC6, .zeroPage), (0xD6, .zeroPageX), (0xCE, .absolute), (0xDE, .absoluteX)] ∧
  (Completes .dec fun i s =>
    { s.write (ea i s) (s.read (ea i s) - 1) with pc := next i s, p := zn (s.read (ea i s) - 1) s.p }) ∧
  EncodedAs .inc [(0xE6, .zeroPage), (0xF6, .zeroPageX), (0xEE, .absolute), (0xFE, .absoluteX)] ∧
  (Completes .inc fun i s =>
    { s.write (ea i s) (s.read (ea i s) + 1) with pc := next i s, p := zn (s.read (ea i s) + 1) s.p })

/-- Rules R131, R132, R134 and R135, with the opcodes they list. -/
def Obligations.IndexCountersWrap : Prop :=
  EncodedAs .dex [(0xCA, .implied)] ∧
  (∀ s : State, exec .dex s = .next { s with pc := s.pc + 1, x := s.x - 1, p := zn (s.x - 1) s.p }) ∧
  EncodedAs .dey [(0x88, .implied)] ∧
  (∀ s : State, exec .dey s = .next { s with pc := s.pc + 1, y := s.y - 1, p := zn (s.y - 1) s.p }) ∧
  EncodedAs .inx [(0xE8, .implied)] ∧
  (∀ s : State, exec .inx s = .next { s with pc := s.pc + 1, x := s.x + 1, p := zn (s.x + 1) s.p }) ∧
  EncodedAs .iny [(0xC8, .implied)] ∧
  (∀ s : State, exec .iny s = .next { s with pc := s.pc + 1, y := s.y + 1, p := zn (s.y + 1) s.p })

/-- Rules R141 to R148, with the opcodes they list. Which flag each mnemonic tests the spec marks as general knowledge
(rule R140), but for BEQ. -/
def Obligations.BranchesTestOneFlag : Prop :=
  EncodedAs .bcc [(0x90, .relative)] ∧
  EncodedAs .bcs [(0xB0, .relative)] ∧
  EncodedAs .beq [(0xF0, .relative)] ∧
  EncodedAs .bmi [(0x30, .relative)] ∧
  EncodedAs .bne [(0xD0, .relative)] ∧
  EncodedAs .bpl [(0x10, .relative)] ∧
  EncodedAs .bvc [(0x50, .relative)] ∧
  EncodedAs .bvs [(0x70, .relative)] ∧
  (∀ (rr : Byte) (s : State), exec (.bcc rr) s =
    .next { s with pc := if !s.p.c then s.pc + 2 + rr.signExtend 16 else s.pc + 2 }) ∧
  (∀ (rr : Byte) (s : State), exec (.bcs rr) s =
    .next { s with pc := if s.p.c then s.pc + 2 + rr.signExtend 16 else s.pc + 2 }) ∧
  (∀ (rr : Byte) (s : State), exec (.beq rr) s =
    .next { s with pc := if s.p.z then s.pc + 2 + rr.signExtend 16 else s.pc + 2 }) ∧
  (∀ (rr : Byte) (s : State), exec (.bmi rr) s =
    .next { s with pc := if s.p.n then s.pc + 2 + rr.signExtend 16 else s.pc + 2 }) ∧
  (∀ (rr : Byte) (s : State), exec (.bne rr) s =
    .next { s with pc := if !s.p.z then s.pc + 2 + rr.signExtend 16 else s.pc + 2 }) ∧
  (∀ (rr : Byte) (s : State), exec (.bpl rr) s =
    .next { s with pc := if !s.p.n then s.pc + 2 + rr.signExtend 16 else s.pc + 2 }) ∧
  (∀ (rr : Byte) (s : State), exec (.bvc rr) s =
    .next { s with pc := if !s.p.v then s.pc + 2 + rr.signExtend 16 else s.pc + 2 }) ∧
  (∀ (rr : Byte) (s : State), exec (.bvs rr) s =
    .next { s with pc := if s.p.v then s.pc + 2 + rr.signExtend 16 else s.pc + 2 })

/-- Rules R149 and R150, with the opcodes they list; `push16` is rule R54's (see `StackWordLayout`). -/
def Obligations.JumpsLoadPC : Prop :=
  EncodedAs .jmp [(0x4C, .absolute), (0x6C, .indirect)] ∧
  EncodedAs .jsr [(0x20, .absolute)] ∧
  (∀ (addr : Word) (s : State), exec (.jmpAbsolute addr) s = .next { s with pc := addr }) ∧
  (∀ (ptr : Word) (s : State), exec (.jmpIndirect ptr) s = .next { s with pc := littleEndian s ptr }) ∧
  (∀ (addr : Word) (s : State), exec (.jsr addr) s = .next { push16 (s.pc + 2) s with pc := addr })

/-- Rule R152. That the default pulls no status is the spec's own decision D9 (90_conflicts.md C1). -/
def Obligations.RtsReturnsPastThePulledAddress : Prop :=
  EncodedAs .rts [(0x60, .implied)] ∧
  (∀ s : State, s.cfg.rtsPullsStatus = false → exec .rts s = .next { s with
    pc := wordOf (s.read (stackAddress (s.sp + 1))) (s.read (stackAddress (s.sp + 2))) + 1, sp := s.sp + 2 }) ∧
  (∀ s : State, s.cfg.rtsPullsStatus = true → exec .rts s = .next { s with
    p := unpack (s.read (stackAddress (s.sp + 1)))
    pc := wordOf (s.read (stackAddress (s.sp + 2))) (s.read (stackAddress (s.sp + 3))) + 1, sp := s.sp + 3 })

/-- Rule R151, and the source's property that JSR from 0x0600 and then RTS restores PC to 0x0603. -/
def Obligations.JsrThenRtsReturnsPastJsr : Prop :=
  ∀ (addr : Word) (s t b : State), exec (.jsr addr) s = .next t → b.cfg.rtsPullsStatus = false → b.sp = t.sp →
    b.read (stackAddress (t.sp + 1)) = t.read (stackAddress (t.sp + 1)) →
    b.read (stackAddress (t.sp + 2)) = t.read (stackAddress (t.sp + 2)) →
    ∃ u, exec .rts b = .next u ∧ u.pc = s.pc + 3 ∧ u.sp = s.sp

/-- Rule R153. That B is replaced too is the spec's own decision D12. -/
def Obligations.RtiRestoresStatusAndPC : Prop :=
  EncodedAs .rti [(0x40, .implied)] ∧
  (∀ s : State, exec .rti s = .next { s with
    p := unpack (s.read (stackAddress (s.sp + 1)))
    pc := wordOf (s.read (stackAddress (s.sp + 2))) (s.read (stackAddress (s.sp + 3))), sp := s.sp + 3 })

/-- Rules R154 and R155. The masking, that I is not set by default and that B is set in the pushed byte only are the spec's
own decisions D6, D7 and D8. -/
def Obligations.BrkTrapsUnlessMasked : Prop :=
  EncodedAs .brk [(0x00, .implied)] ∧
  (∀ s : State, s.cfg.brkMaskedByI = true → s.p.i = true → exec .brk s = .next { s with pc := s.pc + 1 }) ∧
  (∀ s : State, s.cfg.brkMaskedByI = false ∨ s.p.i = false → exec .brk s = .next { s with
    mem := (((s.write (stackAddress s.sp) ((s.pc + 1).extractLsb' 8 8)).write (stackAddress (s.sp - 1))
      ((s.pc + 1).extractLsb' 0 8)).write (stackAddress (s.sp - 2)) (pack s.p ||| 0x10)).mem
    sp := s.sp - 3
    p := { s.p with i := s.p.i || s.cfg.brkSetsI }
    pc := littleEndian s 0xFFFE })

/-- Rules R203 and R204; B after the return follows from the spec's decisions D8 and D12 (95_test_vectors.md, P4). -/
def Obligations.BrkThenRtiReturnsPastBrk : Prop :=
  ∀ s t b : State, brkTraps s = true → exec .brk s = .next t → b.sp = t.sp →
    b.read (stackAddress (t.sp + 1)) = t.read (stackAddress (t.sp + 1)) →
    b.read (stackAddress (t.sp + 2)) = t.read (stackAddress (t.sp + 2)) →
    b.read (stackAddress (t.sp + 3)) = t.read (stackAddress (t.sp + 3)) →
    ∃ u, exec .rti b = .next u ∧ u.pc = s.pc + 1 ∧ u.sp = s.sp ∧ u.p = { s.p with b := true }

/-! ### Loads, stores, the stack, flags, transfers -/

/-- Rules R160, R161 and R162, with the opcodes they list. -/
def Obligations.LoadsMoveOperandToRegister : Prop :=
  EncodedAs .lda [(0xA9, .immediate), (0xA5, .zeroPage), (0xB5, .zeroPageX), (0xAD, .absolute), (0xBD, .absoluteX), (0xB9, .absoluteY), (0xA1, .indirectX), (0xB1, .indirectY)] ∧
  (Completes .lda fun i s => { s with pc := next i s, a := M i s, p := zn (M i s) s.p }) ∧
  EncodedAs .ldx [(0xA2, .immediate), (0xA6, .zeroPage), (0xB6, .zeroPageY), (0xAE, .absolute), (0xBE, .absoluteY)] ∧
  (Completes .ldx fun i s => { s with pc := next i s, x := M i s, p := zn (M i s) s.p }) ∧
  EncodedAs .ldy [(0xA0, .immediate), (0xA4, .zeroPage), (0xB4, .zeroPageX), (0xAC, .absolute), (0xBC, .absoluteX)] ∧
  (Completes .ldy fun i s => { s with pc := next i s, y := M i s, p := zn (M i s) s.p })

/-- Rules R163, R164 and R165. That a store writes no flag is the spec's own decision D10. -/
def Obligations.StoresWriteRegisterToMemory : Prop :=
  EncodedAs .sta [(0x85, .zeroPage), (0x95, .zeroPageX), (0x8D, .absolute), (0x9D, .absoluteX), (0x99, .absoluteY), (0x81, .indirectX), (0x91, .indirectY)] ∧
  (Completes .sta fun i s => { s.write (ea i s) s.a with pc := next i s }) ∧
  EncodedAs .stx [(0x86, .zeroPage), (0x96, .zeroPageY), (0x8E, .absolute)] ∧
  (Completes .stx fun i s => { s.write (ea i s) s.x with pc := next i s }) ∧
  EncodedAs .sty [(0x84, .zeroPage), (0x94, .zeroPageX), (0x8C, .absolute)] ∧
  (Completes .sty fun i s => { s.write (ea i s) s.y with pc := next i s })

/-- Rules R170 to R173. That PHP does not force bit 4 is the spec's own decision D11, the push and pull order D3. -/
def Obligations.StackInstructionsMoveOneByte : Prop :=
  EncodedAs .pha [(0x48, .implied)] ∧
  EncodedAs .php [(0x08, .implied)] ∧
  (∀ s : State, exec .pha s = .next { s.write (0x0100 + s.sp.setWidth 16) s.a with pc := s.pc + 1, sp := s.sp - 1 }) ∧
  (∀ s : State, exec .php s = .next { s.write (0x0100 + s.sp.setWidth 16) (pack s.p) with pc := s.pc + 1, sp := s.sp - 1 }) ∧
  EncodedAs .pla [(0x68, .implied)] ∧
  EncodedAs .plp [(0x28, .implied)] ∧
  (∀ s : State, exec .pla s = .next (
    let v := s.read (0x0100 + (s.sp + 1).setWidth 16)
    { s with pc := s.pc + 1, a := v, sp := s.sp + 1, p := zn v s.p })) ∧
  (∀ s : State, exec .plp s = .next (
    let v := s.read (0x0100 + (s.sp + 1).setWidth 16)
    { s with
      pc := s.pc + 1
      sp := s.sp + 1
      p := { c := v[0], z := v[1], i := v[2], d := v[3], b := v[4], v := v[6], n := v[7] } }))

/-- The example of rule R173: PHP then PLP leaves `P` and `S` unchanged. -/
def Obligations.PhpThenPlpRestoresStatus : Prop :=
  ∀ s t b : State, exec .php s = .next t → b.sp = t.sp →
    b.read (stackAddress (t.sp + 1)) = t.read (stackAddress (t.sp + 1)) →
    ∃ u, exec .plp b = .next u ∧ u.p = s.p ∧ u.sp = s.sp

/-- Rules R181 to R187, with the opcodes they list. Which flag each mnemonic names the spec marks as general knowledge
(rule R180). -/
def Obligations.FlagInstructionsWriteOneFlag : Prop :=
  EncodedAs .sec [(0x38, .implied)] ∧
  (∀ s : State, exec .sec s = .next { s with pc := s.pc + 1, p := { s.p with c := true } }) ∧
  EncodedAs .sed [(0xF8, .implied)] ∧
  (∀ s : State, exec .sed s = .next { s with pc := s.pc + 1, p := { s.p with d := true } }) ∧
  EncodedAs .sei [(0x78, .implied)] ∧
  (∀ s : State, exec .sei s = .next { s with pc := s.pc + 1, p := { s.p with i := true } }) ∧
  EncodedAs .clc [(0x18, .implied)] ∧
  (∀ s : State, exec .clc s = .next { s with pc := s.pc + 1, p := { s.p with c := false } }) ∧
  EncodedAs .cld [(0xD8, .implied)] ∧
  (∀ s : State, exec .cld s = .next { s with pc := s.pc + 1, p := { s.p with d := false } }) ∧
  EncodedAs .cli [(0x58, .implied)] ∧
  (∀ s : State, exec .cli s = .next { s with pc := s.pc + 1, p := { s.p with i := false } }) ∧
  EncodedAs .clv [(0xB8, .implied)] ∧
  (∀ s : State, exec .clv s = .next { s with pc := s.pc + 1, p := { s.p with v := false } })

/-- Rules R188 to R193. Which registers each mnemonic names the spec marks as general knowledge (rule R188). -/
def Obligations.TransfersCopyRegisters : Prop :=
  EncodedAs .tax [(0xAA, .implied)] ∧
  EncodedAs .tay [(0xA8, .implied)] ∧
  EncodedAs .tsx [(0xBA, .implied)] ∧
  EncodedAs .txa [(0x8A, .implied)] ∧
  EncodedAs .txs [(0x9A, .implied)] ∧
  EncodedAs .tya [(0x98, .implied)] ∧
  (∀ s : State, exec .tax s = .next { s with pc := s.pc + 1, x := s.a, p := zn s.a s.p }) ∧
  (∀ s : State, exec .tay s = .next { s with pc := s.pc + 1, y := s.a, p := zn s.a s.p }) ∧
  (∀ s : State, exec .tsx s = .next { s with pc := s.pc + 1, x := s.sp, p := zn s.sp s.p }) ∧
  (∀ s : State, exec .txa s = .next { s with pc := s.pc + 1, a := s.x, p := zn s.x s.p }) ∧
  (∀ s : State, exec .tya s = .next { s with pc := s.pc + 1, a := s.y, p := zn s.y s.p }) ∧
  (∀ s : State, exec .txs s = .next { s with pc := s.pc + 1, sp := s.x })

/-- Rule R194, with the opcode it lists. -/
def Obligations.NopOnlyAdvancesPC : Prop :=
  EncodedAs .nop [(0xEA, .implied)] ∧
  (∀ s : State, exec .nop s = .next { s with pc := s.pc + 1 })

/-! ### Frames and whole-machine rules over all instructions -/

/-- Rules R21, R22, R24 and R27: the frame of every instruction on the registers. -/
def Obligations.RegisterFrame : Prop :=
  ∀ (i : Instr) (s t : State), exec i s = .next t →
    (writesA i = false → t.a = s.a) ∧ (writesX i = false → t.x = s.x) ∧ (writesY i = false → t.y = s.y) ∧
    (writesSP i s = false → t.sp = s.sp) ∧ t.halted = s.halted ∧ t.cfg = s.cfg

/-- Rule R33, over all instructions; `Flag.writers` is its table. -/
def Obligations.FlagFrame : Prop :=
  ∀ (i : Instr) (s t : State) (f : Flag), exec i s = .next t → writesFlag i f s = false → t.p.get f = s.p.get f

/-- Rule R58: what each instruction writes; `storesTo` computes the addresses with the functions the meanings use. -/
def Obligations.MemoryFrame : Prop :=
  ∀ (i : Instr) (s t : State) (addr : Word), exec i s = .next t → addr ∉ storesTo i s → t.read addr = s.read addr

/-- Rule R23: these thirteen write `PC` beyond the resolver's advance. -/
def Obligations.SequentialInstructionsAdvancePC : Prop :=
  ∀ (i : Instr) (s t : State), exec i s = .next t →
    i.mnemonic ∉ ([.bcc, .bcs, .beq, .bmi, .bne, .bpl, .bvc, .bvs, .jmp, .jsr, .rts, .rti, .brk] : List Mnemonic) →
    t.pc = s.pc + BitVec.ofNat 16 (encode i).length

/-- Rules R17, R57 and R58. The order and count are the spec's own decision D15. -/
def Obligations.TraceAccountsForMemory : Prop :=
  ∀ s t : State, step s = .next t → (stepAccesses s).head? = some (.read s.pc) ∧ t.mem = replay (stepAccesses s) s.mem

/-- Rules R200, R201 and R224, by induction over the run. The halted state and the stop address are the spec's own
decisions D16 and D23. That no entry outside `STANDARD_TABLE` is refused is the model's choice (log 4; rule R80 and the
spec's own decision D20 let a model refuse it). -/
def Obligations.RunsAreNeverRefused : Prop :=
  ∀ (stop : Word) (k : Nat) (s : State), s.halted = false →
    match runUntil stop k s with
    | .stopped t => t.pc = stop ∧ t.halted = false
    | .faulted f t => t.halted = true ∧ f = .unknownOpcode (t.read t.pc) t.pc
    | .refused _ => False
    | .going t => t.pc ≠ stop ∧ t.halted = false
end

