-- ==== Sys2Proof/Laws/Flags.lean ====
section
/-! SUPPORT. The small laws of the flag update logic: reading a flag after setting one, and what each flag function
leaves in each flag. -/

namespace Sys2Proof.Machine

@[simp] theorem Status.get_set_same (p : Status) (f : Flag) (b : Bool) : (p.set f b).get f = b := by
  cases f <;> rfl

theorem Status.get_set_other (p : Status) {f g : Flag} (b : Bool) (h : g ≠ f) : (p.set f b).get g = p.get g := by
  cases f <;> cases g <;> first | rfl | exact absurd rfl h

/-- Two statuses with equal flags are equal. -/
theorem Status.ext_get {p q : Status} (h : ∀ f, p.get f = q.get f) : p = q := by
  cases p; cases q
  exact (Status.mk.injEq ..).mpr ⟨h .c, h .z, h .i, h .d, h .b, h .v, h .n⟩

/-- The shared flag rule as a record (10_state.md rule R30). -/
theorem setZN_eq (v : Byte) (p : Status) : setZN v p = { p with z := v == 0, n := v[7] } := rfl

/-- The flags of ADC and SBC as a record (41_alu.md rules R104, R105). -/
theorem setSumFlags_eq (sum : Sum) (p : Status) :
    setSumFlags sum p =
      { p with c := sum.carry, v := sum.overflow, z := sum.result == 0, n := sum.result[7] } := rfl

/-- The flags of a compare as a record (41_alu.md rules R111 to R113). -/
theorem setCompareFlags_eq (r m : Byte) (p : Status) :
    setCompareFlags r m p =
      { p with c := (cmp8 r m).2, z := (cmp8 r m).1 == 0, n := (cmp8 r m).1[7] } := rfl

/-- The flags of BIT as a record (41_alu.md rule R110). -/
theorem setBitFlags_eq (a m : Byte) (p : Status) :
    setBitFlags a m p = { p with n := m[7], v := m[6], z := m &&& a == 0 } := rfl

/-- The flags of a shift as a record (42_shift_rotate.md). -/
theorem setShiftFlags_eq (out : Byte × Bool) (p : Status) :
    setShiftFlags out p = { p with c := out.2, z := out.1 == 0, n := out.1[7] } := rfl

/-- Bit `j` of a byte with only bit `k` in play. -/
theorem bitAt_getLsbD (value : Bool) (k j : Nat) (hj : j < 8) :
    (bitAt value k).getLsbD j = (decide (j = k) && value) := by
  unfold bitAt
  rw [BitVec.getLsbD_shiftLeft]
  rcases Nat.lt_trichotomy j k with h | h | h
  · simp [h, Nat.ne_of_lt h]
  · subst h
    cases value <;> simp [hj]
  · have h1 : ¬ j < k := by omega
    have h2 : j - k ≠ 0 := by omega
    cases value <;> simp [h1, h2, Nat.ne_of_gt h, hj]

end Sys2Proof.Machine
end

