-- ==== Sys2Proof/Laws/Memory.lean ====
section
/-! SUPPORT. The laws of memory: reading after writing and erasing, and that every memory operation keeps the
canonical form. The reading laws hold of every list, canonical or not. -/

namespace Sys2Proof.Machine

/-! ### Reading after a change -/

theorem Memory.read_erase_same (m : Memory) (a : Nat) : (m.erase a).read a = Memory.unlisted := by
  induction m with
  | nil => rfl
  | cons cell rest ih =>
    obtain ⟨b, w⟩ := cell
    by_cases h : b = a <;> simp [Memory.erase, Memory.read, h, ih]

theorem Memory.read_erase_other (m : Memory) {a c : Nat} (h : c ≠ a) : (m.erase a).read c = m.read c := by
  induction m with
  | nil => rfl
  | cons cell rest ih =>
    obtain ⟨b, w⟩ := cell
    by_cases hb : b = a
    · have : b ≠ c := fun e => h (e.symm.trans hb)
      simp [Memory.erase, Memory.read, hb, ih, Ne.symm h]
    · simp [Memory.erase, Memory.read, hb, ih]

/-- Inserting at an address not listed reads back there. -/
theorem Memory.read_insert_same (m : Memory) (a : Nat) (v : Byte) : ((m.erase a).insert a v).read a = v := by
  induction m with
  | nil => simp [Memory.erase, Memory.insert, Memory.read]
  | cons cell rest ih =>
    obtain ⟨b, w⟩ := cell
    by_cases hb : b = a
    · simp [Memory.erase, hb, ih]
    · by_cases hlt : a < b <;> simp [Memory.erase, Memory.insert, Memory.read, hb, hlt, ih]

theorem Memory.read_insert_other (m : Memory) {a c : Nat} (v : Byte) (h : c ≠ a) :
    (m.insert a v).read c = m.read c := by
  induction m with
  | nil => simp [Memory.insert, Memory.read, Ne.symm h]
  | cons cell rest ih =>
    obtain ⟨b, w⟩ := cell
    by_cases hlt : a < b <;> simp [Memory.insert, Memory.read, hlt, ih, Ne.symm h]

@[simp] theorem Memory.read_write_same (m : Memory) (a : Nat) (v : Byte) : (m.write a v).read a = v := by
  by_cases h : v = Memory.unlisted
  · simp [Memory.write, h, Memory.read_erase_same]
  · simp [Memory.write, h, Memory.read_insert_same]

theorem Memory.read_write_other (m : Memory) {a c : Nat} (v : Byte) (h : c ≠ a) :
    (m.write a v).read c = m.read c := by
  by_cases hv : v = Memory.unlisted
  · simp [Memory.write, hv, Memory.read_erase_other m h]
  · simp [Memory.write, hv, Memory.read_insert_other _ v h, Memory.read_erase_other m h]

theorem Memory.read_write (m : Memory) (a c : Nat) (v : Byte) :
    (m.write a v).read c = if c = a then v else m.read c := by
  by_cases h : c = a
  · simp [h]
  · simp [h, Memory.read_write_other m v h]

/-! ### The canonical form -/

/-- The canonical form from an address on holds from any lower address on. -/
theorem Memory.wfFrom_mono {m : Memory} {lo lo' : Nat} (h : lo' ≤ lo) (hm : Memory.wfFrom lo m = true) :
    Memory.wfFrom lo' m = true := by
  cases m with
  | nil => rfl
  | cons cell rest =>
    obtain ⟨b, w⟩ := cell
    simp only [Memory.wfFrom, Bool.and_eq_true, decide_eq_true_eq] at hm ⊢
    exact ⟨⟨⟨by omega, hm.1.1.2⟩, hm.1.2⟩, hm.2⟩

theorem Memory.erase_wfFrom {m : Memory} {lo : Nat} (a : Nat) (hm : Memory.wfFrom lo m = true) :
    Memory.wfFrom lo (m.erase a) = true := by
  induction m generalizing lo with
  | nil => rfl
  | cons cell rest ih =>
    obtain ⟨b, w⟩ := cell
    simp only [Memory.wfFrom, Bool.and_eq_true, decide_eq_true_eq] at hm
    by_cases hb : b = a
    · simp only [Memory.erase, hb, if_true]
      exact Memory.wfFrom_mono (by omega) (ih hm.2)
    · simp only [Memory.erase, hb, if_false, Memory.wfFrom, Bool.and_eq_true, decide_eq_true_eq]
      exact ⟨hm.1, ih hm.2⟩

/-- Inserting a byte that is not the unlisted one, at an address not listed, keeps the canonical form. -/
theorem Memory.insert_wfFrom {m : Memory} {lo a : Nat} {v : Byte} (hv : v ≠ Memory.unlisted) (ha : a < 65536)
    (hlo : lo ≤ a) (hm : Memory.wfFrom lo m = true) :
    Memory.wfFrom lo ((m.erase a).insert a v) = true := by
  induction m generalizing lo with
  | nil => simp [Memory.erase, Memory.insert, Memory.wfFrom, hv, ha, hlo]
  | cons cell rest ih =>
    obtain ⟨b, w⟩ := cell
    simp only [Memory.wfFrom, Bool.and_eq_true, decide_eq_true_eq] at hm
    by_cases hb : b = a
    · simp only [Memory.erase, hb, if_true]
      exact ih hlo (Memory.wfFrom_mono (by omega) hm.2)
    · simp only [Memory.erase, hb, if_false, Memory.insert]
      by_cases hlt : a < b
      · simp only [hlt, if_true, Memory.wfFrom, Bool.and_eq_true, decide_eq_true_eq]
        exact ⟨⟨⟨hlo, ha⟩, by simpa using hv⟩, ⟨⟨by omega, hm.1.1.2⟩, hm.1.2⟩,
          Memory.erase_wfFrom a hm.2⟩
      · simp only [hlt, if_false, Memory.wfFrom, Bool.and_eq_true, decide_eq_true_eq]
        exact ⟨hm.1, ih (by omega) hm.2⟩

/-- A write at an address of the space keeps the canonical form. -/
theorem Memory.write_wf {m : Memory} {a : Nat} (v : Byte) (ha : a < 65536) (hm : m.wf = true) :
    (m.write a v).wf = true := by
  by_cases hv : v = Memory.unlisted
  · simpa [Memory.write, hv, Memory.wf] using Memory.erase_wfFrom a hm
  · simpa [Memory.write, hv, Memory.wf] using Memory.insert_wfFrom hv ha (Nat.zero_le a) hm

/-- A write of the block keeps the canonical form. -/
theorem State.write_wf {s : State} (addr : Word) (v : Byte) (hs : s.mem.wf = true) :
    (s.write addr v).mem.wf = true :=
  Memory.write_wf v addr.isLt hs

/-- Memory at reset is in canonical form. -/
theorem reset_mem_wf : State.reset.mem.wf = true := rfl

/-- Canonical memories that read the same from an address on are the same list. -/
theorem Memory.eq_of_read_eq {m m' : Memory} {lo : Nat} (hm : Memory.wfFrom lo m = true)
    (hm' : Memory.wfFrom lo m' = true) (h : ∀ a, m.read a = m'.read a) : m = m' := by
  have below : ∀ {l : Memory} {lo a : Nat}, Memory.wfFrom lo l = true → a < lo → l.read a = Memory.unlisted := by
    intro l
    induction l with
    | nil => intros; rfl
    | cons cell rest ih =>
      obtain ⟨b, w⟩ := cell
      intro lo a hl ha
      simp only [Memory.wfFrom, Bool.and_eq_true, decide_eq_true_eq] at hl
      have : b ≠ a := by omega
      simpa [Memory.read, this] using ih hl.2 (by omega)
  induction m generalizing m' lo with
  | nil =>
    cases m' with
    | nil => rfl
    | cons cell rest =>
      obtain ⟨b, w⟩ := cell
      simp only [Memory.wfFrom, Bool.and_eq_true, bne_iff_ne] at hm'
      exact absurd (by simpa [Memory.read] using (h b).symm) hm'.1.2
  | cons cell rest ih =>
    obtain ⟨b, w⟩ := cell
    have hm0 := hm
    simp only [Memory.wfFrom, Bool.and_eq_true, decide_eq_true_eq, bne_iff_ne] at hm
    cases m' with
    | nil => exact absurd (by simpa [Memory.read] using h b) hm.1.2
    | cons cell' rest' =>
      obtain ⟨b', w'⟩ := cell'
      have hm0' := hm'
      simp only [Memory.wfFrom, Bool.and_eq_true, decide_eq_true_eq, bne_iff_ne] at hm'
      have hb : b = b' := by
        rcases Nat.lt_trichotomy b b' with hlt | heq | hgt
        · have h1 := h b
          have hne : b' ≠ b := by omega
          rw [show Memory.read ((b', w') :: rest') b = Memory.unlisted by
            simpa [Memory.read, hne] using below hm'.2 (by omega)] at h1
          exact absurd (by simpa [Memory.read] using h1) hm.1.2
        · exact heq
        · have h1 := h b'
          have hne : b ≠ b' := by omega
          rw [show Memory.read ((b, w) :: rest) b' = Memory.unlisted by
            simpa [Memory.read, hne] using below hm.2 (by omega)] at h1
          exact absurd (by simpa [Memory.read] using h1.symm) hm'.1.2
      subst hb
      have hw : w = w' := by simpa [Memory.read] using h b
      subst hw
      refine congrArg _ (ih hm.2 hm'.2 fun a => ?_)
      by_cases ha : b = a
      · subst ha
        rw [below hm.2 (by omega), below hm'.2 (by omega)]
      · simpa [Memory.read, ha] using h a

/-! ### The same through the block's accesses -/

theorem State.read_write (s : State) (addr c : Word) (v : Byte) :
    (s.write addr v).read c = if c = addr then v else s.read c := by
  simp [State.read, Memory.read_write, BitVec.toNat_inj]

@[simp] theorem State.read_write_same (s : State) (addr : Word) (v : Byte) : (s.write addr v).read addr = v := by
  simp [State.read_write]

theorem State.read_write_other (s : State) {addr c : Word} (v : Byte) (h : c ≠ addr) :
    (s.write addr v).read c = s.read c := by
  simp [State.read_write, h]

/-- A read depends on memory alone. -/
theorem State.read_congr {s t : State} (h : s.mem = t.mem) (addr : Word) : s.read addr = t.read addr := by
  simp [State.read, h]

end Sys2Proof.Machine
end

