-- ==== Sys2Proof/Laws/Ops.lean ====
section
/-! SUPPORT. What each shared operation does, said once: the stack helpers, the trap and the return from it, the
fatal fault. Provers cite these instead of unfolding the operations. -/

namespace Sys2Proof.Machine

/-! ### Pushing and pulling a byte -/

theorem push8_eq (v : Byte) (s : State) : push8 v s = { s.write (stackAddress s.sp) v with sp := s.sp - 1 } := rfl

@[simp] theorem push8_a (v : Byte) (s : State) : (push8 v s).a = s.a := rfl
@[simp] theorem push8_x (v : Byte) (s : State) : (push8 v s).x = s.x := rfl
@[simp] theorem push8_y (v : Byte) (s : State) : (push8 v s).y = s.y := rfl
@[simp] theorem push8_sp (v : Byte) (s : State) : (push8 v s).sp = s.sp - 1 := rfl
@[simp] theorem push8_pc (v : Byte) (s : State) : (push8 v s).pc = s.pc := rfl
@[simp] theorem push8_p (v : Byte) (s : State) : (push8 v s).p = s.p := rfl
@[simp] theorem push8_halted (v : Byte) (s : State) : (push8 v s).halted = s.halted := rfl
@[simp] theorem push8_cfg (v : Byte) (s : State) : (push8 v s).cfg = s.cfg := rfl
@[simp] theorem push8_mem (v : Byte) (s : State) :
    (push8 v s).mem = s.mem.write (stackAddress s.sp).toNat v := rfl

theorem push8_read (v : Byte) (s : State) (c : Word) :
    (push8 v s).read c = if c = stackAddress s.sp then v else s.read c :=
  State.read_write s (stackAddress s.sp) c v

theorem push8_wf (v : Byte) {s : State} (hs : s.mem.wf = true) : (push8 v s).mem.wf = true :=
  State.write_wf (stackAddress s.sp) v hs

theorem pull8_eq (s : State) : pull8 s = (s.read (stackAddress (s.sp + 1)), { s with sp := s.sp + 1 }) := rfl

/-! ### Pushing and pulling a word -/

theorem push16_eq (w : Word) (s : State) :
    push16 w s =
      { (s.write (stackAddress s.sp) (hiByte w)).write (stackAddress (s.sp - 1)) (loByte w) with
        sp := s.sp - 1 - 1 } := rfl

@[simp] theorem push16_a (w : Word) (s : State) : (push16 w s).a = s.a := rfl
@[simp] theorem push16_x (w : Word) (s : State) : (push16 w s).x = s.x := rfl
@[simp] theorem push16_y (w : Word) (s : State) : (push16 w s).y = s.y := rfl
@[simp] theorem push16_sp (w : Word) (s : State) : (push16 w s).sp = s.sp - 1 - 1 := rfl
@[simp] theorem push16_pc (w : Word) (s : State) : (push16 w s).pc = s.pc := rfl
@[simp] theorem push16_p (w : Word) (s : State) : (push16 w s).p = s.p := rfl
@[simp] theorem push16_halted (w : Word) (s : State) : (push16 w s).halted = s.halted := rfl
@[simp] theorem push16_cfg (w : Word) (s : State) : (push16 w s).cfg = s.cfg := rfl
@[simp] theorem push16_mem (w : Word) (s : State) :
    (push16 w s).mem =
      (s.mem.write (stackAddress s.sp).toNat (hiByte w)).write (stackAddress (s.sp - 1)).toNat (loByte w) := rfl

theorem push16_read (w : Word) (s : State) (c : Word) :
    (push16 w s).read c =
      if c = stackAddress (s.sp - 1) then loByte w
      else if c = stackAddress s.sp then hiByte w else s.read c := by
  rw [push16, push8_read, push8_sp, push8_read]

theorem push16_wf (w : Word) {s : State} (hs : s.mem.wf = true) : (push16 w s).mem.wf = true :=
  push8_wf _ (push8_wf _ hs)

theorem pull16_eq (s : State) :
    pull16 s =
      (wordOf (s.read (stackAddress (s.sp + 1))) (s.read (stackAddress (s.sp + 1 + 1))),
        { s with sp := s.sp + 1 + 1 }) := rfl

theorem pullStatus_eq (s : State) :
    pullStatus s = { s with p := unpack (s.read (stackAddress (s.sp + 1))), sp := s.sp + 1 } := rfl

/-! ### The trap and the return from it -/

theorem brkTrap_eq (s : State) :
    brkTrap s =
      let saved := push8 (pack s.p ||| 0x10) (push16 s.pc s)
      { saved with
        p := if s.cfg.brkSetsI then { s.p with i := true } else s.p
        pc := saved.readWord brkVector } := by
  by_cases h : s.cfg.brkSetsI <;> simp [brkTrap, h, State.setP, State.setPC, Status.set, push8_eq, push16_eq]
  all_goals rfl

theorem brkTrap_mem (s : State) : (brkTrap s).mem = (push8 (pack s.p ||| 0x10) (push16 s.pc s)).mem := by
  rw [brkTrap_eq]

theorem brkTrap_wf {s : State} (hs : s.mem.wf = true) : (brkTrap s).mem.wf = true := by
  rw [brkTrap_mem]
  exact push8_wf _ (push16_wf _ hs)

theorem returnFromTrap_eq (s : State) :
    returnFromTrap s =
      { s with
        p := unpack (s.read (stackAddress (s.sp + 1)))
        pc := wordOf (s.read (stackAddress (s.sp + 1 + 1))) (s.read (stackAddress (s.sp + 1 + 1 + 1)))
        sp := s.sp + 1 + 1 + 1 } := rfl

/-! ### The fatal fault -/

theorem raiseUnknownOpcode_eq (op : Byte) (s : State) :
    raiseUnknownOpcode op s = (.unknownOpcode op s.pc, { s with halted := true }) := rfl

/-! ### Stack addresses -/

theorem stackAddress_toNat (sp : Byte) : (stackAddress sp).toNat = 256 + sp.toNat := by
  have := sp.isLt
  simp only [stackAddress, zext16, BitVec.toNat_add, BitVec.toNat_setWidth]
  simp
  omega

/-- Different stack pointers address different bytes. -/
theorem stackAddress_inj {a b : Byte} : stackAddress a = stackAddress b ↔ a = b := by
  constructor
  · intro h
    have := congrArg BitVec.toNat h
    rw [stackAddress_toNat, stackAddress_toNat] at this
    exact BitVec.eq_of_toNat_eq (by omega)
  · rintro rfl; rfl

/-- The stack page does not hold the BRK vector. -/
theorem stackAddress_ne_vector (sp : Byte) : stackAddress sp ≠ brkVector ∧ stackAddress sp ≠ brkVector + 1 := by
  have hlt := sp.isLt
  constructor <;> intro h <;> have := congrArg BitVec.toNat h <;> rw [stackAddress_toNat] at this <;>
    simp [brkVector] at this <;> omega

end Sys2Proof.Machine
end

