-- ==== Sys2Proof/Laws/Operands.lean ====
section
/-! SUPPORT. The resolver's small laws: resolving changes `PC` only, and an operand's effective address in the form a
proof wants. -/

namespace Sys2Proof.Machine

@[simp] theorem pastInstruction_a (op : Operand) (s : State) : (pastInstruction op s).a = s.a := rfl
@[simp] theorem pastInstruction_x (op : Operand) (s : State) : (pastInstruction op s).x = s.x := rfl
@[simp] theorem pastInstruction_y (op : Operand) (s : State) : (pastInstruction op s).y = s.y := rfl
@[simp] theorem pastInstruction_sp (op : Operand) (s : State) : (pastInstruction op s).sp = s.sp := rfl
@[simp] theorem pastInstruction_pc (op : Operand) (s : State) : (pastInstruction op s).pc = nextPC op s := rfl
@[simp] theorem pastInstruction_p (op : Operand) (s : State) : (pastInstruction op s).p = s.p := rfl
@[simp] theorem pastInstruction_halted (op : Operand) (s : State) : (pastInstruction op s).halted = s.halted := rfl
@[simp] theorem pastInstruction_mem (op : Operand) (s : State) : (pastInstruction op s).mem = s.mem := rfl
@[simp] theorem pastInstruction_cfg (op : Operand) (s : State) : (pastInstruction op s).cfg = s.cfg := rfl
@[simp] theorem pastInstruction_read (op : Operand) (s : State) (c : Word) :
    (pastInstruction op s).read c = s.read c := rfl

/-- The next instruction's address in terms of the instruction's length. -/
theorem nextPC_eq_length (i : Instr) (s : State) : nextPC i.operand s = s.pc + BitVec.ofNat 16 i.length := by
  unfold nextPC Instr.length
  rw [BitVec.ofNat_add, BitVec.add_assoc]
  rfl

/-- Only an Immediate operand is not read from its effective address. -/
theorem operandByte_eq_read {op : Operand} (h : op.mode ≠ .immediate) (s : State) :
    operandByte op s = s.read (effectiveAddress op s) := by
  cases op <;> first | rfl | exact absurd rfl h

/-- The word of a word's two bytes is the word. -/
theorem wordOf_bytes (w : Word) : wordOf (loByte w) (hiByte w) = w := by
  unfold wordOf loByte hiByte
  ext k hk
  simp only [BitVec.getElem_append, BitVec.getElem_extractLsb']
  split <;> simp [BitVec.getLsbD_eq_getElem, hk]
  rename_i h
  have : 8 + (k - 8) = k := by omega
  simp [this, BitVec.getLsbD_eq_getElem, hk]

theorem loByte_wordOf (lo hi : Byte) : loByte (wordOf lo hi) = lo := by
  ext k hk
  refine (BitVec.getElem_extractLsb' hk).trans ((BitVec.getLsbD_append).trans ?_)
  simp [hk, BitVec.getLsbD_eq_getElem]

theorem hiByte_wordOf (lo hi : Byte) : hiByte (wordOf lo hi) = hi := by
  ext k hk
  refine (BitVec.getElem_extractLsb' hk).trans ((BitVec.getLsbD_append).trans ?_)
  simp [hk, BitVec.getLsbD_eq_getElem]

end Sys2Proof.Machine
end

