-- ==== Sys2Proof/Laws/Handlers.lean ====
section
/-! SUPPORT. What each shared part of the handlers does, as one record equation each, which provers cite instead of
unfolding it. -/

namespace Sys2Proof.Machine

theorem pastInstruction_eq (op : Operand) (s : State) : pastInstruction op s = { s with pc := nextPC op s } := rfl

theorem setAccumulator_eq (v : Byte) (s : State) :
    setAccumulator v s = { s with a := v, p := { s.p with z := v == 0, n := v[7] } } := rfl

/-- A shift in Accumulator mode writes `A`, no memory (42_shift_rotate.md rule R120). -/
theorem shiftWith_accumulator (out : Byte × Bool) (s : State) :
    shiftWith .accumulator out s =
      { s with
        a := out.1
        pc := nextPC .accumulator s
        p := { s.p with c := out.2, z := out.1 == 0, n := out.1[7] } } := rfl

/-- A shift in any other mode writes the byte at its effective address (42_shift_rotate.md rule R120). -/
theorem shiftWith_memory {op : Operand} (h : op ≠ .accumulator) (out : Byte × Bool) (s : State) :
    shiftWith op out s =
      { s.write (effectiveAddress op s) out.1 with
        pc := nextPC op s
        p := { s.p with c := out.2, z := out.1 == 0, n := out.1[7] } } := by
  cases op <;> first | rfl | exact absurd rfl h

theorem storeCounted_eq (op : Operand) (r : Byte) (s : State) :
    storeCounted op r s =
      { s.write (effectiveAddress op s) r with
        pc := nextPC op s
        p := { s.p with z := r == 0, n := r[7] } } := rfl

theorem branchIf_eq (condition : Bool) (op : Operand) (s : State) :
    branchIf condition op s = { s with pc := if condition then effectiveAddress op s else nextPC op s } := by
  cases condition <;> rfl

theorem writeFlag_eq (f : Flag) (value : Bool) (op : Operand) (s : State) :
    writeFlag f value op s = { s with pc := nextPC op s, p := s.p.set f value } := rfl

/-- RTS as one record (44_control_transfer.md rule R152). -/
theorem runRts_eq (op : Operand) (s : State) :
    runRts op s =
      if s.cfg.rtsPullsStatus then
        { s with
          p := unpack (s.read (stackAddress (s.sp + 1)))
          pc := wordOf (s.read (stackAddress (s.sp + 1 + 1))) (s.read (stackAddress (s.sp + 1 + 1 + 1))) + 1
          sp := s.sp + 1 + 1 + 1 }
      else
        { s with
          pc := wordOf (s.read (stackAddress (s.sp + 1))) (s.read (stackAddress (s.sp + 1 + 1))) + 1
          sp := s.sp + 1 + 1 } := by
  cases h : s.cfg.rtsPullsStatus <;> simp only [runRts, pastInstruction_cfg, h] <;> rfl

/-- BRK as one record: nothing but `PC` while masked, else the trap (44_control_transfer.md rules R154, R155). -/
theorem runBrk_eq (op : Operand) (s : State) :
    runBrk op s =
      if s.cfg.brkMaskedByI && s.p.i then { s with pc := nextPC op s }
      else
        let saved := push8 (pack s.p ||| 0x10) (push16 (nextPC op s) s)
        { saved with
          p := if s.cfg.brkSetsI then { s.p with i := true } else s.p
          pc := saved.readWord brkVector } := by
  unfold runBrk
  split
  · rfl
  · rw [brkTrap_eq]; rfl

/-! Loading the accumulator, field by field -/

@[simp] theorem setAccumulator_a (v : Byte) (s : State) :
    (setAccumulator v s).a = v := by
  rfl
@[simp] theorem setAccumulator_x (v : Byte) (s : State) :
    (setAccumulator v s).x = s.x := by
  rfl
@[simp] theorem setAccumulator_y (v : Byte) (s : State) :
    (setAccumulator v s).y = s.y := by
  rfl
@[simp] theorem setAccumulator_sp (v : Byte) (s : State) :
    (setAccumulator v s).sp = s.sp := by
  rfl
@[simp] theorem setAccumulator_pc (v : Byte) (s : State) :
    (setAccumulator v s).pc = s.pc := by
  rfl
@[simp] theorem setAccumulator_p (v : Byte) (s : State) :
    (setAccumulator v s).p = { s.p with z := v == 0, n := v[7] } := by
  rfl
@[simp] theorem setAccumulator_halted (v : Byte) (s : State) :
    (setAccumulator v s).halted = s.halted := by
  rfl
@[simp] theorem setAccumulator_mem (v : Byte) (s : State) :
    (setAccumulator v s).mem = s.mem := by
  rfl
@[simp] theorem setAccumulator_cfg (v : Byte) (s : State) :
    (setAccumulator v s).cfg = s.cfg := by
  rfl

/-! A shift, field by field -/

@[simp] theorem shiftWith_x (op : Operand) (out : Byte × Bool) (s : State) :
    (shiftWith op out s).x = s.x := by
  cases op <;> rfl
@[simp] theorem shiftWith_y (op : Operand) (out : Byte × Bool) (s : State) :
    (shiftWith op out s).y = s.y := by
  cases op <;> rfl
@[simp] theorem shiftWith_sp (op : Operand) (out : Byte × Bool) (s : State) :
    (shiftWith op out s).sp = s.sp := by
  cases op <;> rfl
@[simp] theorem shiftWith_pc (op : Operand) (out : Byte × Bool) (s : State) :
    (shiftWith op out s).pc = nextPC op s := by
  cases op <;> rfl
@[simp] theorem shiftWith_p (op : Operand) (out : Byte × Bool) (s : State) :
    (shiftWith op out s).p = { s.p with c := out.2, z := out.1 == 0, n := out.1[7] } := by
  cases op <;> rfl
@[simp] theorem shiftWith_halted (op : Operand) (out : Byte × Bool) (s : State) :
    (shiftWith op out s).halted = s.halted := by
  cases op <;> rfl
@[simp] theorem shiftWith_cfg (op : Operand) (out : Byte × Bool) (s : State) :
    (shiftWith op out s).cfg = s.cfg := by
  cases op <;> rfl

/-! A counted memory cell, field by field -/

@[simp] theorem storeCounted_a (op : Operand) (r : Byte) (s : State) :
    (storeCounted op r s).a = s.a := by
  rfl
@[simp] theorem storeCounted_x (op : Operand) (r : Byte) (s : State) :
    (storeCounted op r s).x = s.x := by
  rfl
@[simp] theorem storeCounted_y (op : Operand) (r : Byte) (s : State) :
    (storeCounted op r s).y = s.y := by
  rfl
@[simp] theorem storeCounted_sp (op : Operand) (r : Byte) (s : State) :
    (storeCounted op r s).sp = s.sp := by
  rfl
@[simp] theorem storeCounted_pc (op : Operand) (r : Byte) (s : State) :
    (storeCounted op r s).pc = nextPC op s := by
  rfl
@[simp] theorem storeCounted_p (op : Operand) (r : Byte) (s : State) :
    (storeCounted op r s).p = { s.p with z := r == 0, n := r[7] } := by
  rfl
@[simp] theorem storeCounted_halted (op : Operand) (r : Byte) (s : State) :
    (storeCounted op r s).halted = s.halted := by
  rfl
@[simp] theorem storeCounted_mem (op : Operand) (r : Byte) (s : State) :
    (storeCounted op r s).mem = s.mem.write (effectiveAddress op s).toNat r := by
  rfl
@[simp] theorem storeCounted_cfg (op : Operand) (r : Byte) (s : State) :
    (storeCounted op r s).cfg = s.cfg := by
  rfl

/-! A branch, field by field -/

@[simp] theorem branchIf_a (c : Bool) (op : Operand) (s : State) :
    (branchIf c op s).a = s.a := by
  cases c <;> rfl
@[simp] theorem branchIf_x (c : Bool) (op : Operand) (s : State) :
    (branchIf c op s).x = s.x := by
  cases c <;> rfl
@[simp] theorem branchIf_y (c : Bool) (op : Operand) (s : State) :
    (branchIf c op s).y = s.y := by
  cases c <;> rfl
@[simp] theorem branchIf_sp (c : Bool) (op : Operand) (s : State) :
    (branchIf c op s).sp = s.sp := by
  cases c <;> rfl
@[simp] theorem branchIf_pc (c : Bool) (op : Operand) (s : State) :
    (branchIf c op s).pc = if c then effectiveAddress op s else nextPC op s := by
  cases c <;> rfl
@[simp] theorem branchIf_p (c : Bool) (op : Operand) (s : State) :
    (branchIf c op s).p = s.p := by
  cases c <;> rfl
@[simp] theorem branchIf_halted (c : Bool) (op : Operand) (s : State) :
    (branchIf c op s).halted = s.halted := by
  cases c <;> rfl
@[simp] theorem branchIf_mem (c : Bool) (op : Operand) (s : State) :
    (branchIf c op s).mem = s.mem := by
  cases c <;> rfl
@[simp] theorem branchIf_cfg (c : Bool) (op : Operand) (s : State) :
    (branchIf c op s).cfg = s.cfg := by
  cases c <;> rfl

/-! A flag instruction, field by field -/

@[simp] theorem writeFlag_a (f : Flag) (v : Bool) (op : Operand) (s : State) :
    (writeFlag f v op s).a = s.a := by
  rfl
@[simp] theorem writeFlag_x (f : Flag) (v : Bool) (op : Operand) (s : State) :
    (writeFlag f v op s).x = s.x := by
  rfl
@[simp] theorem writeFlag_y (f : Flag) (v : Bool) (op : Operand) (s : State) :
    (writeFlag f v op s).y = s.y := by
  rfl
@[simp] theorem writeFlag_sp (f : Flag) (v : Bool) (op : Operand) (s : State) :
    (writeFlag f v op s).sp = s.sp := by
  rfl
@[simp] theorem writeFlag_pc (f : Flag) (v : Bool) (op : Operand) (s : State) :
    (writeFlag f v op s).pc = nextPC op s := by
  rfl
@[simp] theorem writeFlag_p (f : Flag) (v : Bool) (op : Operand) (s : State) :
    (writeFlag f v op s).p = s.p.set f v := by
  rfl
@[simp] theorem writeFlag_halted (f : Flag) (v : Bool) (op : Operand) (s : State) :
    (writeFlag f v op s).halted = s.halted := by
  rfl
@[simp] theorem writeFlag_mem (f : Flag) (v : Bool) (op : Operand) (s : State) :
    (writeFlag f v op s).mem = s.mem := by
  rfl
@[simp] theorem writeFlag_cfg (f : Flag) (v : Bool) (op : Operand) (s : State) :
    (writeFlag f v op s).cfg = s.cfg := by
  rfl

end Sys2Proof.Machine
end

