-- ==== Sys2Proof/Laws/PerInstr.lean ====
section
/-! SUPPORT. The family Form, one lemma for each constructor of Instr: its mnemonic and operand give it back, it is
well formed, and `STANDARD_TABLE`'s entry for its opcode is its mnemonic and mode (the grid of 30_encoding.md rule
R77 against the list of rule R78). -/

namespace Sys2Proof.Laws.Form

/-- What holds of each instruction as syntax. -/
def Statement (i : Instr) : Prop :=
  Instr.ofPair i.mnemonic i.operand = some i ∧ i.wellFormed = true ∧
    standardTable i.opcode = some (i.mnemonic, i.operand.mode)

theorem adcImmediate (v : Byte) : Statement (.adcImmediate v) := ⟨rfl, rfl, rfl⟩
theorem adcZeroPage (zz : Byte) : Statement (.adcZeroPage zz) := ⟨rfl, rfl, rfl⟩
theorem adcZeroPageX (zz : Byte) : Statement (.adcZeroPageX zz) := ⟨rfl, rfl, rfl⟩
theorem adcAbsolute (addr : Word) : Statement (.adcAbsolute addr) := ⟨rfl, rfl, rfl⟩
theorem adcAbsoluteX (base : Word) : Statement (.adcAbsoluteX base) := ⟨rfl, rfl, rfl⟩
theorem adcAbsoluteY (base : Word) : Statement (.adcAbsoluteY base) := ⟨rfl, rfl, rfl⟩
theorem adcIndirectX (zz : Byte) : Statement (.adcIndirectX zz) := ⟨rfl, rfl, rfl⟩
theorem adcIndirectY (zz : Byte) : Statement (.adcIndirectY zz) := ⟨rfl, rfl, rfl⟩
theorem sbcImmediate (v : Byte) : Statement (.sbcImmediate v) := ⟨rfl, rfl, rfl⟩
theorem sbcZeroPage (zz : Byte) : Statement (.sbcZeroPage zz) := ⟨rfl, rfl, rfl⟩
theorem sbcZeroPageX (zz : Byte) : Statement (.sbcZeroPageX zz) := ⟨rfl, rfl, rfl⟩
theorem sbcAbsolute (addr : Word) : Statement (.sbcAbsolute addr) := ⟨rfl, rfl, rfl⟩
theorem sbcAbsoluteX (base : Word) : Statement (.sbcAbsoluteX base) := ⟨rfl, rfl, rfl⟩
theorem sbcAbsoluteY (base : Word) : Statement (.sbcAbsoluteY base) := ⟨rfl, rfl, rfl⟩
theorem sbcIndirectX (zz : Byte) : Statement (.sbcIndirectX zz) := ⟨rfl, rfl, rfl⟩
theorem sbcIndirectY (zz : Byte) : Statement (.sbcIndirectY zz) := ⟨rfl, rfl, rfl⟩
theorem andImmediate (v : Byte) : Statement (.andImmediate v) := ⟨rfl, rfl, rfl⟩
theorem andZeroPage (zz : Byte) : Statement (.andZeroPage zz) := ⟨rfl, rfl, rfl⟩
theorem andZeroPageX (zz : Byte) : Statement (.andZeroPageX zz) := ⟨rfl, rfl, rfl⟩
theorem andAbsolute (addr : Word) : Statement (.andAbsolute addr) := ⟨rfl, rfl, rfl⟩
theorem andAbsoluteX (base : Word) : Statement (.andAbsoluteX base) := ⟨rfl, rfl, rfl⟩
theorem andAbsoluteY (base : Word) : Statement (.andAbsoluteY base) := ⟨rfl, rfl, rfl⟩
theorem andIndirectX (zz : Byte) : Statement (.andIndirectX zz) := ⟨rfl, rfl, rfl⟩
theorem andIndirectY (zz : Byte) : Statement (.andIndirectY zz) := ⟨rfl, rfl, rfl⟩
theorem oraImmediate (v : Byte) : Statement (.oraImmediate v) := ⟨rfl, rfl, rfl⟩
theorem oraZeroPage (zz : Byte) : Statement (.oraZeroPage zz) := ⟨rfl, rfl, rfl⟩
theorem oraZeroPageX (zz : Byte) : Statement (.oraZeroPageX zz) := ⟨rfl, rfl, rfl⟩
theorem oraAbsolute (addr : Word) : Statement (.oraAbsolute addr) := ⟨rfl, rfl, rfl⟩
theorem oraAbsoluteX (base : Word) : Statement (.oraAbsoluteX base) := ⟨rfl, rfl, rfl⟩
theorem oraAbsoluteY (base : Word) : Statement (.oraAbsoluteY base) := ⟨rfl, rfl, rfl⟩
theorem oraIndirectX (zz : Byte) : Statement (.oraIndirectX zz) := ⟨rfl, rfl, rfl⟩
theorem oraIndirectY (zz : Byte) : Statement (.oraIndirectY zz) := ⟨rfl, rfl, rfl⟩
theorem eorImmediate (v : Byte) : Statement (.eorImmediate v) := ⟨rfl, rfl, rfl⟩
theorem eorZeroPage (zz : Byte) : Statement (.eorZeroPage zz) := ⟨rfl, rfl, rfl⟩
theorem eorZeroPageX (zz : Byte) : Statement (.eorZeroPageX zz) := ⟨rfl, rfl, rfl⟩
theorem eorAbsolute (addr : Word) : Statement (.eorAbsolute addr) := ⟨rfl, rfl, rfl⟩
theorem eorAbsoluteX (base : Word) : Statement (.eorAbsoluteX base) := ⟨rfl, rfl, rfl⟩
theorem eorAbsoluteY (base : Word) : Statement (.eorAbsoluteY base) := ⟨rfl, rfl, rfl⟩
theorem eorIndirectX (zz : Byte) : Statement (.eorIndirectX zz) := ⟨rfl, rfl, rfl⟩
theorem eorIndirectY (zz : Byte) : Statement (.eorIndirectY zz) := ⟨rfl, rfl, rfl⟩
theorem bitZeroPage (zz : Byte) : Statement (.bitZeroPage zz) := ⟨rfl, rfl, rfl⟩
theorem bitAbsolute (addr : Word) : Statement (.bitAbsolute addr) := ⟨rfl, rfl, rfl⟩
theorem cmpImmediate (v : Byte) : Statement (.cmpImmediate v) := ⟨rfl, rfl, rfl⟩
theorem cmpZeroPage (zz : Byte) : Statement (.cmpZeroPage zz) := ⟨rfl, rfl, rfl⟩
theorem cmpZeroPageX (zz : Byte) : Statement (.cmpZeroPageX zz) := ⟨rfl, rfl, rfl⟩
theorem cmpAbsolute (addr : Word) : Statement (.cmpAbsolute addr) := ⟨rfl, rfl, rfl⟩
theorem cmpAbsoluteX (base : Word) : Statement (.cmpAbsoluteX base) := ⟨rfl, rfl, rfl⟩
theorem cmpAbsoluteY (base : Word) : Statement (.cmpAbsoluteY base) := ⟨rfl, rfl, rfl⟩
theorem cmpIndirectX (zz : Byte) : Statement (.cmpIndirectX zz) := ⟨rfl, rfl, rfl⟩
theorem cmpIndirectY (zz : Byte) : Statement (.cmpIndirectY zz) := ⟨rfl, rfl, rfl⟩
theorem cpxImmediate (v : Byte) : Statement (.cpxImmediate v) := ⟨rfl, rfl, rfl⟩
theorem cpxZeroPage (zz : Byte) : Statement (.cpxZeroPage zz) := ⟨rfl, rfl, rfl⟩
theorem cpxAbsolute (addr : Word) : Statement (.cpxAbsolute addr) := ⟨rfl, rfl, rfl⟩
theorem cpyImmediate (v : Byte) : Statement (.cpyImmediate v) := ⟨rfl, rfl, rfl⟩
theorem cpyZeroPage (zz : Byte) : Statement (.cpyZeroPage zz) := ⟨rfl, rfl, rfl⟩
theorem cpyAbsolute (addr : Word) : Statement (.cpyAbsolute addr) := ⟨rfl, rfl, rfl⟩
theorem aslAccumulator : Statement .aslAccumulator := ⟨rfl, rfl, rfl⟩
theorem aslZeroPage (zz : Byte) : Statement (.aslZeroPage zz) := ⟨rfl, rfl, rfl⟩
theorem aslZeroPageX (zz : Byte) : Statement (.aslZeroPageX zz) := ⟨rfl, rfl, rfl⟩
theorem aslAbsolute (addr : Word) : Statement (.aslAbsolute addr) := ⟨rfl, rfl, rfl⟩
theorem aslAbsoluteX (base : Word) : Statement (.aslAbsoluteX base) := ⟨rfl, rfl, rfl⟩
theorem lsrAccumulator : Statement .lsrAccumulator := ⟨rfl, rfl, rfl⟩
theorem lsrZeroPage (zz : Byte) : Statement (.lsrZeroPage zz) := ⟨rfl, rfl, rfl⟩
theorem lsrZeroPageX (zz : Byte) : Statement (.lsrZeroPageX zz) := ⟨rfl, rfl, rfl⟩
theorem lsrAbsolute (addr : Word) : Statement (.lsrAbsolute addr) := ⟨rfl, rfl, rfl⟩
theorem lsrAbsoluteX (base : Word) : Statement (.lsrAbsoluteX base) := ⟨rfl, rfl, rfl⟩
theorem rolAccumulator : Statement .rolAccumulator := ⟨rfl, rfl, rfl⟩
theorem rolZeroPage (zz : Byte) : Statement (.rolZeroPage zz) := ⟨rfl, rfl, rfl⟩
theorem rolZeroPageX (zz : Byte) : Statement (.rolZeroPageX zz) := ⟨rfl, rfl, rfl⟩
theorem rolAbsolute (addr : Word) : Statement (.rolAbsolute addr) := ⟨rfl, rfl, rfl⟩
theorem rolAbsoluteX (base : Word) : Statement (.rolAbsoluteX base) := ⟨rfl, rfl, rfl⟩
theorem rorAccumulator : Statement .rorAccumulator := ⟨rfl, rfl, rfl⟩
theorem rorZeroPage (zz : Byte) : Statement (.rorZeroPage zz) := ⟨rfl, rfl, rfl⟩
theorem rorZeroPageX (zz : Byte) : Statement (.rorZeroPageX zz) := ⟨rfl, rfl, rfl⟩
theorem rorAbsolute (addr : Word) : Statement (.rorAbsolute addr) := ⟨rfl, rfl, rfl⟩
theorem rorAbsoluteX (base : Word) : Statement (.rorAbsoluteX base) := ⟨rfl, rfl, rfl⟩
theorem decZeroPage (zz : Byte) : Statement (.decZeroPage zz) := ⟨rfl, rfl, rfl⟩
theorem decZeroPageX (zz : Byte) : Statement (.decZeroPageX zz) := ⟨rfl, rfl, rfl⟩
theorem decAbsolute (addr : Word) : Statement (.decAbsolute addr) := ⟨rfl, rfl, rfl⟩
theorem decAbsoluteX (base : Word) : Statement (.decAbsoluteX base) := ⟨rfl, rfl, rfl⟩
theorem dex : Statement .dex := ⟨rfl, rfl, rfl⟩
theorem dey : Statement .dey := ⟨rfl, rfl, rfl⟩
theorem incZeroPage (zz : Byte) : Statement (.incZeroPage zz) := ⟨rfl, rfl, rfl⟩
theorem incZeroPageX (zz : Byte) : Statement (.incZeroPageX zz) := ⟨rfl, rfl, rfl⟩
theorem incAbsolute (addr : Word) : Statement (.incAbsolute addr) := ⟨rfl, rfl, rfl⟩
theorem incAbsoluteX (base : Word) : Statement (.incAbsoluteX base) := ⟨rfl, rfl, rfl⟩
theorem inx : Statement .inx := ⟨rfl, rfl, rfl⟩
theorem iny : Statement .iny := ⟨rfl, rfl, rfl⟩
theorem bcc (rr : Byte) : Statement (.bcc rr) := ⟨rfl, rfl, rfl⟩
theorem bcs (rr : Byte) : Statement (.bcs rr) := ⟨rfl, rfl, rfl⟩
theorem beq (rr : Byte) : Statement (.beq rr) := ⟨rfl, rfl, rfl⟩
theorem bmi (rr : Byte) : Statement (.bmi rr) := ⟨rfl, rfl, rfl⟩
theorem bne (rr : Byte) : Statement (.bne rr) := ⟨rfl, rfl, rfl⟩
theorem bpl (rr : Byte) : Statement (.bpl rr) := ⟨rfl, rfl, rfl⟩
theorem bvc (rr : Byte) : Statement (.bvc rr) := ⟨rfl, rfl, rfl⟩
theorem bvs (rr : Byte) : Statement (.bvs rr) := ⟨rfl, rfl, rfl⟩
theorem jmpAbsolute (addr : Word) : Statement (.jmpAbsolute addr) := ⟨rfl, rfl, rfl⟩
theorem jmpIndirect (ptr : Word) : Statement (.jmpIndirect ptr) := ⟨rfl, rfl, rfl⟩
theorem jsr (addr : Word) : Statement (.jsr addr) := ⟨rfl, rfl, rfl⟩
theorem rts : Statement .rts := ⟨rfl, rfl, rfl⟩
theorem rti : Statement .rti := ⟨rfl, rfl, rfl⟩
theorem brk : Statement .brk := ⟨rfl, rfl, rfl⟩
theorem ldaImmediate (v : Byte) : Statement (.ldaImmediate v) := ⟨rfl, rfl, rfl⟩
theorem ldaZeroPage (zz : Byte) : Statement (.ldaZeroPage zz) := ⟨rfl, rfl, rfl⟩
theorem ldaZeroPageX (zz : Byte) : Statement (.ldaZeroPageX zz) := ⟨rfl, rfl, rfl⟩
theorem ldaAbsolute (addr : Word) : Statement (.ldaAbsolute addr) := ⟨rfl, rfl, rfl⟩
theorem ldaAbsoluteX (base : Word) : Statement (.ldaAbsoluteX base) := ⟨rfl, rfl, rfl⟩
theorem ldaAbsoluteY (base : Word) : Statement (.ldaAbsoluteY base) := ⟨rfl, rfl, rfl⟩
theorem ldaIndirectX (zz : Byte) : Statement (.ldaIndirectX zz) := ⟨rfl, rfl, rfl⟩
theorem ldaIndirectY (zz : Byte) : Statement (.ldaIndirectY zz) := ⟨rfl, rfl, rfl⟩
theorem ldxImmediate (v : Byte) : Statement (.ldxImmediate v) := ⟨rfl, rfl, rfl⟩
theorem ldxZeroPage (zz : Byte) : Statement (.ldxZeroPage zz) := ⟨rfl, rfl, rfl⟩
theorem ldxZeroPageY (zz : Byte) : Statement (.ldxZeroPageY zz) := ⟨rfl, rfl, rfl⟩
theorem ldxAbsolute (addr : Word) : Statement (.ldxAbsolute addr) := ⟨rfl, rfl, rfl⟩
theorem ldxAbsoluteY (base : Word) : Statement (.ldxAbsoluteY base) := ⟨rfl, rfl, rfl⟩
theorem ldyImmediate (v : Byte) : Statement (.ldyImmediate v) := ⟨rfl, rfl, rfl⟩
theorem ldyZeroPage (zz : Byte) : Statement (.ldyZeroPage zz) := ⟨rfl, rfl, rfl⟩
theorem ldyZeroPageX (zz : Byte) : Statement (.ldyZeroPageX zz) := ⟨rfl, rfl, rfl⟩
theorem ldyAbsolute (addr : Word) : Statement (.ldyAbsolute addr) := ⟨rfl, rfl, rfl⟩
theorem ldyAbsoluteX (base : Word) : Statement (.ldyAbsoluteX base) := ⟨rfl, rfl, rfl⟩
theorem staZeroPage (zz : Byte) : Statement (.staZeroPage zz) := ⟨rfl, rfl, rfl⟩
theorem staZeroPageX (zz : Byte) : Statement (.staZeroPageX zz) := ⟨rfl, rfl, rfl⟩
theorem staAbsolute (addr : Word) : Statement (.staAbsolute addr) := ⟨rfl, rfl, rfl⟩
theorem staAbsoluteX (base : Word) : Statement (.staAbsoluteX base) := ⟨rfl, rfl, rfl⟩
theorem staAbsoluteY (base : Word) : Statement (.staAbsoluteY base) := ⟨rfl, rfl, rfl⟩
theorem staIndirectX (zz : Byte) : Statement (.staIndirectX zz) := ⟨rfl, rfl, rfl⟩
theorem staIndirectY (zz : Byte) : Statement (.staIndirectY zz) := ⟨rfl, rfl, rfl⟩
theorem stxZeroPage (zz : Byte) : Statement (.stxZeroPage zz) := ⟨rfl, rfl, rfl⟩
theorem stxZeroPageY (zz : Byte) : Statement (.stxZeroPageY zz) := ⟨rfl, rfl, rfl⟩
theorem stxAbsolute (addr : Word) : Statement (.stxAbsolute addr) := ⟨rfl, rfl, rfl⟩
theorem styZeroPage (zz : Byte) : Statement (.styZeroPage zz) := ⟨rfl, rfl, rfl⟩
theorem styZeroPageX (zz : Byte) : Statement (.styZeroPageX zz) := ⟨rfl, rfl, rfl⟩
theorem styAbsolute (addr : Word) : Statement (.styAbsolute addr) := ⟨rfl, rfl, rfl⟩
theorem pha : Statement .pha := ⟨rfl, rfl, rfl⟩
theorem php : Statement .php := ⟨rfl, rfl, rfl⟩
theorem pla : Statement .pla := ⟨rfl, rfl, rfl⟩
theorem plp : Statement .plp := ⟨rfl, rfl, rfl⟩
theorem sec : Statement .sec := ⟨rfl, rfl, rfl⟩
theorem sed : Statement .sed := ⟨rfl, rfl, rfl⟩
theorem sei : Statement .sei := ⟨rfl, rfl, rfl⟩
theorem clc : Statement .clc := ⟨rfl, rfl, rfl⟩
theorem cld : Statement .cld := ⟨rfl, rfl, rfl⟩
theorem cli : Statement .cli := ⟨rfl, rfl, rfl⟩
theorem clv : Statement .clv := ⟨rfl, rfl, rfl⟩
theorem tax : Statement .tax := ⟨rfl, rfl, rfl⟩
theorem tay : Statement .tay := ⟨rfl, rfl, rfl⟩
theorem tsx : Statement .tsx := ⟨rfl, rfl, rfl⟩
theorem txa : Statement .txa := ⟨rfl, rfl, rfl⟩
theorem txs : Statement .txs := ⟨rfl, rfl, rfl⟩
theorem tya : Statement .tya := ⟨rfl, rfl, rfl⟩
theorem nop : Statement .nop := ⟨rfl, rfl, rfl⟩

end Sys2Proof.Laws.Form
end

