-- ==== Sys2Proof/Laws/Step.lean ====
section
/-! SUPPORT. What a step can do, said once, and the decoder's small laws; every fact about a step starts from
`step_next`. -/

namespace Sys2Proof.Machine

/-- A next state comes from a fetched mnemonic and operand, in a state that is not halted. -/
theorem step_next {s t : State} (h : step s = .next t) :
    s.halted = false ∧ ∃ mn op, fetch s = some (mn, op) ∧ runPair mn op s = .next t := by
  unfold step cycle at h
  split at h
  · exact absurd h (by simp)
  · rename_i hh
    refine ⟨by simpa using hh, ?_⟩
    split at h
    · rename_i mn op hf
      exact ⟨mn, op, hf, h⟩
    · exact absurd h (by simp)

/-- A fetched pair is run. -/
theorem step_of_fetch {s : State} {mn : Mnemonic} {op : Operand} (hh : s.halted = false)
    (hf : fetch s = some (mn, op)) : step s = runPair mn op s := by
  simp [step, cycle, hh, hf]

/-- Nothing fetched is the fatal fault. -/
theorem step_of_no_fetch {s : State} (hh : s.halted = false) (hf : fetch s = none) :
    step s = .fault (.unknownOpcode (fetchOpcode s) s.pc) := by
  simp [step, cycle, hh, hf, raiseUnknownOpcode]

/-- A halted state's step is the fault of that name. -/
theorem step_of_halted {s : State} (hh : s.halted = true) : step s = .fault .halted := by
  simp [step, cycle, hh]

/-- A pair of `STANDARD_TABLE` is its instruction. -/
theorem runPair_of_instr {mn : Mnemonic} {op : Operand} {i : Instr} (h : Instr.ofPair mn op = some i) (s : State) :
    runPair mn op s = exec i s := by
  simp [runPair, h]

/-- With three bytes at hand no operand is short: the decoder's operand is the fetch's. -/
theorem takeOperand_three (m : Mode) (b1 b2 : Byte) :
    m.takeOperand [b1, b2] = some (m.operandOf b1 b2, [b1, b2].drop m.operandBytes) := by
  cases m <;> rfl

/-- An operand from a mode has that mode. -/
theorem operandOf_mode (m : Mode) (b1 b2 : Byte) : (m.operandOf b1 b2).mode = m := by
  cases m <;> rfl

end Sys2Proof.Machine
end

