-- ==== Sys2Proof/Tests/Slice0.lean ====
section
/-! SUPPORT. The model's own tests. Expected results come from spec/: the encodings of opcode_table.json and the vectors of
95_test_vectors.md, not from the model. The last part has a witness for every statement with hypotheses. -/

open Sys2Proof Sys2Proof.Machine Sys2Proof.Rules

namespace Sys2Proof.Tests

/-! ### Well-formedness (30_encoding.md rule R78) -/

theorem test_wellFormed_accepts : wellFormedPair .adc (.immediate 0) = true ∧ wellFormedPair .jmp (.indirect 0) = true ∧
    wellFormedPair .ldx (.zeroPageY 0) = true ∧ wellFormedPair .asl .accumulator = true := by decide

/-- Storing to an immediate, testing an immediate, a branch to an absolute address. -/
theorem test_wellFormed_refuses : wellFormedPair .sta (.immediate 0) = false ∧ wellFormedPair .bit (.immediate 0) = false ∧
    wellFormedPair .beq (.absolute 0) = false := by decide

/-- Only JMP has the Indirect form; only LDX and STX index the zero page by Y; INC has no Accumulator form. -/
theorem test_wellFormed_refuses_modes : wellFormedPair .jsr (.indirect 0) = false ∧
    wellFormedPair .lda (.zeroPageY 0) = false ∧ wellFormedPair .inc .accumulator = false ∧
    wellFormedPair .nop .accumulator = false := by decide

/-! ### Decoding: every constructor, by the opcodes of opcode_table.json; 0xA5 is the one-byte operand, 0x34 0x12 the
little-endian word 0x1234 -/

/-- Each word decodes to its instruction with nothing left over. -/
def decodesEach (rows : List (List Byte × Instr)) : Bool :=
  rows.all fun row => decide (decode row.1 = .instr row.2 [])

theorem test_decode_add_subtract : decodesEach
    [([0x61, 0xA5], .adcIndirectX 0xA5), ([0x65, 0xA5], .adcZeroPage 0xA5), ([0x69, 0xA5], .adcImmediate 0xA5),
    ([0x6D, 0x34, 0x12], .adcAbsolute 0x1234), ([0x71, 0xA5], .adcIndirectY 0xA5),
    ([0x75, 0xA5], .adcZeroPageX 0xA5), ([0x79, 0x34, 0x12], .adcAbsoluteY 0x1234),
    ([0x7D, 0x34, 0x12], .adcAbsoluteX 0x1234), ([0xE1, 0xA5], .sbcIndirectX 0xA5),
    ([0xE5, 0xA5], .sbcZeroPage 0xA5), ([0xE9, 0xA5], .sbcImmediate 0xA5),
    ([0xED, 0x34, 0x12], .sbcAbsolute 0x1234), ([0xF1, 0xA5], .sbcIndirectY 0xA5),
    ([0xF5, 0xA5], .sbcZeroPageX 0xA5), ([0xF9, 0x34, 0x12], .sbcAbsoluteY 0x1234),
    ([0xFD, 0x34, 0x12], .sbcAbsoluteX 0x1234)] = true := by decide

theorem test_decode_and_or : decodesEach
    [([0x21, 0xA5], .andIndirectX 0xA5), ([0x25, 0xA5], .andZeroPage 0xA5), ([0x29, 0xA5], .andImmediate 0xA5),
    ([0x2D, 0x34, 0x12], .andAbsolute 0x1234), ([0x31, 0xA5], .andIndirectY 0xA5),
    ([0x35, 0xA5], .andZeroPageX 0xA5), ([0x39, 0x34, 0x12], .andAbsoluteY 0x1234),
    ([0x3D, 0x34, 0x12], .andAbsoluteX 0x1234), ([0x01, 0xA5], .oraIndirectX 0xA5),
    ([0x05, 0xA5], .oraZeroPage 0xA5), ([0x09, 0xA5], .oraImmediate 0xA5),
    ([0x0D, 0x34, 0x12], .oraAbsolute 0x1234), ([0x11, 0xA5], .oraIndirectY 0xA5),
    ([0x15, 0xA5], .oraZeroPageX 0xA5), ([0x19, 0x34, 0x12], .oraAbsoluteY 0x1234),
    ([0x1D, 0x34, 0x12], .oraAbsoluteX 0x1234)] = true := by decide

theorem test_decode_eor_bit_compares : decodesEach
    [([0x41, 0xA5], .eorIndirectX 0xA5), ([0x45, 0xA5], .eorZeroPage 0xA5), ([0x49, 0xA5], .eorImmediate 0xA5),
    ([0x4D, 0x34, 0x12], .eorAbsolute 0x1234), ([0x51, 0xA5], .eorIndirectY 0xA5),
    ([0x55, 0xA5], .eorZeroPageX 0xA5), ([0x59, 0x34, 0x12], .eorAbsoluteY 0x1234),
    ([0x5D, 0x34, 0x12], .eorAbsoluteX 0x1234), ([0x24, 0xA5], .bitZeroPage 0xA5),
    ([0x2C, 0x34, 0x12], .bitAbsolute 0x1234), ([0xC1, 0xA5], .cmpIndirectX 0xA5),
    ([0xC5, 0xA5], .cmpZeroPage 0xA5), ([0xC9, 0xA5], .cmpImmediate 0xA5),
    ([0xCD, 0x34, 0x12], .cmpAbsolute 0x1234), ([0xD1, 0xA5], .cmpIndirectY 0xA5),
    ([0xD5, 0xA5], .cmpZeroPageX 0xA5), ([0xD9, 0x34, 0x12], .cmpAbsoluteY 0x1234),
    ([0xDD, 0x34, 0x12], .cmpAbsoluteX 0x1234), ([0xE0, 0xA5], .cpxImmediate 0xA5),
    ([0xE4, 0xA5], .cpxZeroPage 0xA5), ([0xEC, 0x34, 0x12], .cpxAbsolute 0x1234),
    ([0xC0, 0xA5], .cpyImmediate 0xA5), ([0xC4, 0xA5], .cpyZeroPage 0xA5),
    ([0xCC, 0x34, 0x12], .cpyAbsolute 0x1234)] = true := by decide

theorem test_decode_shifts : decodesEach
    [([0x06, 0xA5], .aslZeroPage 0xA5), ([0x0A], .aslAccumulator), ([0x0E, 0x34, 0x12], .aslAbsolute 0x1234),
    ([0x16, 0xA5], .aslZeroPageX 0xA5), ([0x1E, 0x34, 0x12], .aslAbsoluteX 0x1234),
    ([0x46, 0xA5], .lsrZeroPage 0xA5), ([0x4A], .lsrAccumulator), ([0x4E, 0x34, 0x12], .lsrAbsolute 0x1234),
    ([0x56, 0xA5], .lsrZeroPageX 0xA5), ([0x5E, 0x34, 0x12], .lsrAbsoluteX 0x1234),
    ([0x26, 0xA5], .rolZeroPage 0xA5), ([0x2A], .rolAccumulator), ([0x2E, 0x34, 0x12], .rolAbsolute 0x1234),
    ([0x36, 0xA5], .rolZeroPageX 0xA5), ([0x3E, 0x34, 0x12], .rolAbsoluteX 0x1234),
    ([0x66, 0xA5], .rorZeroPage 0xA5), ([0x6A], .rorAccumulator), ([0x6E, 0x34, 0x12], .rorAbsolute 0x1234),
    ([0x76, 0xA5], .rorZeroPageX 0xA5), ([0x7E, 0x34, 0x12], .rorAbsoluteX 0x1234)] = true := by decide

theorem test_decode_counters : decodesEach
    [([0xC6, 0xA5], .decZeroPage 0xA5), ([0xCE, 0x34, 0x12], .decAbsolute 0x1234),
    ([0xD6, 0xA5], .decZeroPageX 0xA5), ([0xDE, 0x34, 0x12], .decAbsoluteX 0x1234), ([0xCA], .dex),
    ([0x88], .dey), ([0xE6, 0xA5], .incZeroPage 0xA5), ([0xEE, 0x34, 0x12], .incAbsolute 0x1234),
    ([0xF6, 0xA5], .incZeroPageX 0xA5), ([0xFE, 0x34, 0x12], .incAbsoluteX 0x1234), ([0xE8], .inx),
    ([0xC8], .iny)] = true := by decide

theorem test_decode_control : decodesEach
    [([0x90, 0xA5], .bcc 0xA5), ([0xB0, 0xA5], .bcs 0xA5), ([0xF0, 0xA5], .beq 0xA5), ([0x30, 0xA5], .bmi 0xA5),
    ([0xD0, 0xA5], .bne 0xA5), ([0x10, 0xA5], .bpl 0xA5), ([0x50, 0xA5], .bvc 0xA5), ([0x70, 0xA5], .bvs 0xA5),
    ([0x4C, 0x34, 0x12], .jmpAbsolute 0x1234), ([0x6C, 0x34, 0x12], .jmpIndirect 0x1234),
    ([0x20, 0x34, 0x12], .jsr 0x1234), ([0x60], .rts), ([0x40], .rti), ([0x00], .brk)] = true := by decide

theorem test_decode_loads : decodesEach
    [([0xA1, 0xA5], .ldaIndirectX 0xA5), ([0xA5, 0xA5], .ldaZeroPage 0xA5), ([0xA9, 0xA5], .ldaImmediate 0xA5),
    ([0xAD, 0x34, 0x12], .ldaAbsolute 0x1234), ([0xB1, 0xA5], .ldaIndirectY 0xA5),
    ([0xB5, 0xA5], .ldaZeroPageX 0xA5), ([0xB9, 0x34, 0x12], .ldaAbsoluteY 0x1234),
    ([0xBD, 0x34, 0x12], .ldaAbsoluteX 0x1234), ([0xA2, 0xA5], .ldxImmediate 0xA5),
    ([0xA6, 0xA5], .ldxZeroPage 0xA5), ([0xAE, 0x34, 0x12], .ldxAbsolute 0x1234),
    ([0xB6, 0xA5], .ldxZeroPageY 0xA5), ([0xBE, 0x34, 0x12], .ldxAbsoluteY 0x1234),
    ([0xA0, 0xA5], .ldyImmediate 0xA5), ([0xA4, 0xA5], .ldyZeroPage 0xA5),
    ([0xAC, 0x34, 0x12], .ldyAbsolute 0x1234), ([0xB4, 0xA5], .ldyZeroPageX 0xA5),
    ([0xBC, 0x34, 0x12], .ldyAbsoluteX 0x1234)] = true := by decide

theorem test_decode_stores : decodesEach
    [([0x81, 0xA5], .staIndirectX 0xA5), ([0x85, 0xA5], .staZeroPage 0xA5),
    ([0x8D, 0x34, 0x12], .staAbsolute 0x1234), ([0x91, 0xA5], .staIndirectY 0xA5),
    ([0x95, 0xA5], .staZeroPageX 0xA5), ([0x99, 0x34, 0x12], .staAbsoluteY 0x1234),
    ([0x9D, 0x34, 0x12], .staAbsoluteX 0x1234), ([0x86, 0xA5], .stxZeroPage 0xA5),
    ([0x8E, 0x34, 0x12], .stxAbsolute 0x1234), ([0x96, 0xA5], .stxZeroPageY 0xA5),
    ([0x84, 0xA5], .styZeroPage 0xA5), ([0x8C, 0x34, 0x12], .styAbsolute 0x1234),
    ([0x94, 0xA5], .styZeroPageX 0xA5)] = true := by decide

theorem test_decode_stack : decodesEach
    [([0x48], .pha), ([0x08], .php), ([0x68], .pla), ([0x28], .plp)] = true := by decide

theorem test_decode_flags_transfers_nop : decodesEach
    [([0x38], .sec), ([0xF8], .sed), ([0x78], .sei), ([0x18], .clc), ([0xD8], .cld), ([0x58], .cli),
    ([0xB8], .clv), ([0xAA], .tax), ([0xA8], .tay), ([0xBA], .tsx), ([0x8A], .txa), ([0x9A], .txs),
    ([0x98], .tya), ([0xEA], .nop)] = true := by decide

/-! One word of each family bit by bit, in the numbering of opcode_table.json: the opcode byte in bits 7 to 0, the operand
bytes above it. -/

theorem test_bits_alu : decodeTableWord 16 0b0100001001101001 = some (.adcImmediate 0x42) := by decide
theorem test_bits_shift : decodeTableWord 8 0b01101010 = some .rorAccumulator := by decide
theorem test_bits_counter : decodeTableWord 24 0b000100100011010011101110 = some (.incAbsolute 0x1234) := by decide
theorem test_bits_branch : decodeTableWord 16 0b1111111011110000 = some (.beq 0xFE) := by decide
theorem test_bits_jump : decodeTableWord 24 0b000100001111111101101100 = some (.jmpIndirect 0x10FF) := by decide
theorem test_bits_load : decodeTableWord 16 0b1111000010110001 = some (.ldaIndirectY 0xF0) := by decide
theorem test_bits_store : decodeTableWord 16 0b1000000010010110 = some (.stxZeroPageY 0x80) := by decide
theorem test_bits_stack : decodeTableWord 8 0b00001000 = some .php := by decide
theorem test_bits_transfer : decodeTableWord 8 0b10011010 = some .txs := by decide

theorem test_decode_rejects : decode [] = .reject .noBytes ∧ decode [0x02] = .reject (.unknownOpcode 0x02) ∧
    decode [0x6D, 0x34] = .reject (.truncated 0x6D) ∧ decodeTableWord 8 0xFF = none := by decide

theorem test_decode_rejects_pair : decodeWith { tableChanges := [(0x02, some (.sta, .immediate))] } [0x02, 0x07] =
    .reject (.nonStandardPair .sta (.immediate 0x07)) := by decide

/-! ### Operations (95_test_vectors.md sections 1 and 2.1) -/

theorem test_construction_status : pack State.reset.p = 0x20 := by decide

/-- Source properties 1.4 and 1.5, and the vectors 0x50+0x50 and 0xFF+0xFF+1: the result, the carry, the overflow. -/
theorem test_add8 :
    [(add8 0xFF 0x01 false).result, (add8 0x7F 0x01 false).result, (add8 0x50 0x50 false).result,
      (add8 0xFF 0xFF true).result] = [0x00, 0x80, 0xA0, 0xFF] ∧
    [(add8 0xFF 0x01 false).carry, (add8 0x7F 0x01 false).carry, (add8 0x50 0x50 false).carry,
      (add8 0xFF 0xFF true).carry] = [true, false, false, true] ∧
    [(add8 0xFF 0x01 false).overflow, (add8 0x7F 0x01 false).overflow, (add8 0x50 0x50 false).overflow,
      (add8 0xFF 0xFF true).overflow] = [false, true, true, false] := by decide

/-- Source property 1.3 with S at 0x00: the pushed word wraps within page 1 and comes back. -/
theorem test_stack_word_wraps : (pull16 (push16 0xABCD State.reset)).1 = 0xABCD ∧
    (push16 0xABCD State.reset).mem = [(0x0100, 0xAB), (0x01FF, 0xCD)] ∧ (push16 0xABCD State.reset).sp = 0xFE := by decide

/-! ### Single steps -/

/-- The spec's defaults (00_scope.md rules R9, R11). -/
abbrev defaults : Config := {}

/-- The defaults but for `RTS_PULLS_STATUS`. -/
abbrev rtsPulls : Config := { rtsPullsStatus := true }

/-- Memory with bytes stored from an address on. -/
def load : Word → List Byte → Memory → Memory
  | _, [], m => m
  | addr, b :: rest, m => load (addr + 1) rest (m.write addr.toNat b)

/-- Memory with cells stored. -/
def storeCells (cells : List Host.Cell) (m : Memory) : Memory := cells.foldl (fun m c => m.write c.1 c.2) m

/-- A launch state: the code at an address with `PC` there, the registers, `P` packed, and cells of memory. -/
def start (cfg : Config) (pc : Word) (code : List Byte) (a x y sp p : Byte) (cells : List Host.Cell) : State :=
  launch cfg (load pc code (storeCells cells [])) a x y sp pc (unpack p)

/-- One step ends in these registers, memory changed by exactly these writes. -/
def ends (s : State) (a x y sp : Byte) (pc : Word) (p : Byte) (writes : List Host.Cell) : Bool :=
  match step s with
  | .next t => decide (t.a = a) && decide (t.x = x) && decide (t.y = y) && decide (t.sp = sp) && decide (t.pc = pc) &&
      decide (pack t.p = p) && decide (t.mem = storeCells writes s.mem) && !t.halted
  | .fault _ => false
  | .refused _ => false

/-! The vectors of 95_test_vectors.md sections 1 and 2; each docstring names its vector. -/

/-- ADC 0x80+0x80, C=0: C, Z and V all set. -/
theorem test_step_adc_immediate : ends (start defaults 0x0200 [0x69, 0x80] 0x80 0x00 0x00 0xFF 0x20 [])
    0x00 0x00 0x00 0xFF 0x0202 0x63 [] = true := by decide

/-- ADC 0x01+0x01 with C=1 (carry in). -/
theorem test_step_adc_immediate_2 : ends (start defaults 0x0200 [0x69, 0x01] 0x01 0x00 0x00 0xFF 0x21 [])
    0x03 0x00 0x00 0xFF 0x0202 0x20 [] = true := by decide

/-- SBC 0x80-1, C=1: signed overflow. -/
theorem test_step_sbc_immediate : ends (start defaults 0x0200 [0xE9, 0x01] 0x80 0x00 0x00 0xFF 0x21 [])
    0x7F 0x00 0x00 0xFF 0x0202 0x61 [] = true := by decide

/-- SBC 0x05-0x03, C=0 (borrow in). -/
theorem test_step_sbc_immediate_2 : ends (start defaults 0x0200 [0xE9, 0x03] 0x05 0x00 0x00 0xFF 0x20 [])
    0x01 0x00 0x00 0xFF 0x0202 0x21 [] = true := by decide

/-- AND zp. -/
theorem test_step_and_zero_page : ends (start defaults 0x0200 [0x25, 0x10] 0xF0 0x00 0x00 0xFF 0xA0 [(0x0010, 0x0F)])
    0x00 0x00 0x00 0xFF 0x0202 0x22 [] = true := by decide

/-- ORA #, negative. -/
theorem test_step_ora_immediate : ends (start defaults 0x0200 [0x09, 0x80] 0x01 0x00 0x00 0xFF 0x20 [])
    0x81 0x00 0x00 0xFF 0x0202 0xA0 [] = true := by decide

/-- EOR # self clears. -/
theorem test_step_eor_immediate : ends (start defaults 0x0200 [0x49, 0x5A] 0x5A 0x00 0x00 0xFF 0x20 [])
    0x00 0x00 0x00 0xFF 0x0202 0x22 [] = true := by decide

/-- BIT abs: N,V from M; Z from A&M; A unchanged. -/
theorem test_step_bit_absolute : ends (start defaults 0x0200 [0x2C, 0x00, 0x30] 0x3F 0x00 0x00 0xFF 0x20 [(0x3000, 0xC0)])
    0x3F 0x00 0x00 0xFF 0x0203 0xE2 [] = true := by decide

/-- BIT zp: Z=0, N=V=0. -/
theorem test_step_bit_zero_page : ends (start defaults 0x0200 [0x24, 0x10] 0x01 0x00 0x00 0xFF 0xE0 [(0x0010, 0x01)])
    0x01 0x00 0x00 0xFF 0x0202 0x20 [] = true := by decide

/-- CMP A<M unsigned. -/
theorem test_step_cmp_immediate : ends (start defaults 0x0200 [0xC9, 0x41] 0x40 0x00 0x00 0xFF 0x20 [])
    0x40 0x00 0x00 0xFF 0x0202 0xA0 [] = true := by decide

/-- CMP A>M, difference negative. -/
theorem test_step_cmp_immediate_2 : ends (start defaults 0x0200 [0xC9, 0x01] 0xFF 0x00 0x00 0xFF 0x20 [])
    0xFF 0x00 0x00 0xFF 0x0202 0xA1 [] = true := by decide

/-- CPX # greater. -/
theorem test_step_cpx_immediate : ends (start defaults 0x0200 [0xE0, 0x10] 0x00 0x20 0x00 0xFF 0x20 [])
    0x00 0x20 0x00 0xFF 0x0202 0x21 [] = true := by decide

/-- CPY zp less. -/
theorem test_step_cpy_zero_page : ends (start defaults 0x0200 [0xC4, 0x10] 0x00 0x00 0x00 0xFF 0x20 [(0x0010, 0x01)])
    0x00 0x00 0x00 0xFF 0x0202 0xA0 [] = true := by decide

/-- ASL A 0x80: carry out, zero. -/
theorem test_step_asl_accumulator : ends (start defaults 0x0200 [0x0A] 0x80 0x00 0x00 0xFF 0x20 [])
    0x00 0x00 0x00 0xFF 0x0201 0x23 [] = true := by decide

/-- LSR A 0x01. -/
theorem test_step_lsr_accumulator : ends (start defaults 0x0200 [0x4A] 0x01 0x00 0x00 0xFF 0x20 [])
    0x00 0x00 0x00 0xFF 0x0201 0x23 [] = true := by decide

/-- ROL A 0x80 with C=1. -/
theorem test_step_rol_accumulator : ends (start defaults 0x0200 [0x2A] 0x80 0x00 0x00 0xFF 0x21 [])
    0x01 0x00 0x00 0xFF 0x0201 0x21 [] = true := by decide

/-- ROR A 0x01 with C=1. -/
theorem test_step_ror_accumulator : ends (start defaults 0x0200 [0x6A] 0x01 0x00 0x00 0xFF 0x21 [])
    0x80 0x00 0x00 0xFF 0x0201 0xA1 [] = true := by decide

/-- ROR A 0x02 with C=0. -/
theorem test_step_ror_accumulator_2 : ends (start defaults 0x0200 [0x6A] 0x02 0x00 0x00 0xFF 0x20 [])
    0x01 0x00 0x00 0xFF 0x0201 0x20 [] = true := by decide

/-- ASL zp memory form; A untouched. -/
theorem test_step_asl_zero_page : ends (start defaults 0x0200 [0x06, 0x10] 0x33 0x00 0x00 0xFF 0x20 [(0x0010, 0x41)])
    0x33 0x00 0x00 0xFF 0x0202 0xA0 [(0x0010, 0x82)] = true := by decide

/-- LSR abs,X. -/
theorem test_step_lsr_absolute_x : ends (start defaults 0x0200 [0x5E, 0x00, 0x30] 0x00 0x01 0x00 0xFF 0x20 [(0x3001, 0x81)])
    0x00 0x01 0x00 0xFF 0x0203 0x21 [(0x3001, 0x40)] = true := by decide

/-- ROL zp,X wraps in page 0. -/
theorem test_step_rol_zero_page_x : ends (start defaults 0x0200 [0x36, 0xFF] 0x00 0x02 0x00 0xFF 0x20 [(0x0001, 0x40)])
    0x00 0x02 0x00 0xFF 0x0202 0xA0 [(0x0001, 0x80)] = true := by decide

/-- ROR abs. -/
theorem test_step_ror_absolute : ends (start defaults 0x0200 [0x6E, 0x00, 0x30] 0x00 0x00 0x00 0xFF 0x21 [(0x3000, 0x00)])
    0x00 0x00 0x00 0xFF 0x0203 0xA0 [(0x3000, 0x80)] = true := by decide

/-- INX 0xFF wraps to 0. -/
theorem test_step_inx : ends (start defaults 0x0200 [0xE8] 0x00 0xFF 0x00 0xFF 0x20 [])
    0x00 0x00 0x00 0xFF 0x0201 0x22 [] = true := by decide

/-- DEX 0 wraps to 0xFF. -/
theorem test_step_dex : ends (start defaults 0x0200 [0xCA] 0x00 0x00 0x00 0xFF 0x20 [])
    0x00 0xFF 0x00 0xFF 0x0201 0xA0 [] = true := by decide

/-- INY 0x7F. -/
theorem test_step_iny : ends (start defaults 0x0200 [0xC8] 0x00 0x00 0x7F 0xFF 0x20 [])
    0x00 0x00 0x80 0xFF 0x0201 0xA0 [] = true := by decide

/-- DEY 1. -/
theorem test_step_dey : ends (start defaults 0x0200 [0x88] 0x00 0x00 0x01 0xFF 0x20 [])
    0x00 0x00 0x00 0xFF 0x0201 0x22 [] = true := by decide

/-- INC zp 0x7F. -/
theorem test_step_inc_zero_page : ends (start defaults 0x0200 [0xE6, 0x10] 0x00 0x00 0x00 0xFF 0x20 [(0x0010, 0x7F)])
    0x00 0x00 0x00 0xFF 0x0202 0xA0 [(0x0010, 0x80)] = true := by decide

/-- DEC abs 1; C and V untouched. -/
theorem test_step_dec_absolute : ends (start defaults 0x0200 [0xCE, 0x00, 0x30] 0x00 0x00 0x00 0xFF 0x61 [(0x3000, 0x01)])
    0x00 0x00 0x00 0xFF 0x0203 0x63 [(0x3000, 0x00)] = true := by decide

/-- INC abs,X 0xFF. -/
theorem test_step_inc_absolute_x : ends (start defaults 0x0200 [0xFE, 0xFF, 0xFF] 0x00 0x01 0x00 0xFF 0x20 [(0x0000, 0xFF)])
    0x00 0x01 0x00 0xFF 0x0203 0x22 [(0x0000, 0x00)] = true := by decide

/-- BEQ taken (source §8). -/
theorem test_step_beq : ends (start defaults 0x0200 [0xF0, 0x10] 0x00 0x00 0x00 0xFF 0x22 [])
    0x00 0x00 0x00 0xFF 0x0212 0x22 [] = true := by decide

/-- BNE backward 0x80 (-128). -/
theorem test_step_bne : ends (start defaults 0x0200 [0xD0, 0x80] 0x00 0x00 0x00 0xFF 0x20 [])
    0x00 0x00 0x00 0xFF 0x0182 0x20 [] = true := by decide

/-- BNE offset 0xFE: branch to itself. -/
theorem test_step_bne_2 : ends (start defaults 0x0200 [0xD0, 0xFE] 0x00 0x00 0x00 0xFF 0x20 [])
    0x00 0x00 0x00 0xFF 0x0200 0x20 [] = true := by decide

/-- BCC taken. -/
theorem test_step_bcc : ends (start defaults 0x0200 [0x90, 0x04] 0x00 0x00 0x00 0xFF 0x20 [])
    0x00 0x00 0x00 0xFF 0x0206 0x20 [] = true := by decide

/-- BCS not taken. -/
theorem test_step_bcs : ends (start defaults 0x0200 [0xB0, 0x04] 0x00 0x00 0x00 0xFF 0x20 [])
    0x00 0x00 0x00 0xFF 0x0202 0x20 [] = true := by decide

/-- BMI taken. -/
theorem test_step_bmi : ends (start defaults 0x0200 [0x30, 0x04] 0x00 0x00 0x00 0xFF 0xA0 [])
    0x00 0x00 0x00 0xFF 0x0206 0xA0 [] = true := by decide

/-- BPL not taken. -/
theorem test_step_bpl : ends (start defaults 0x0200 [0x10, 0x04] 0x00 0x00 0x00 0xFF 0xA0 [])
    0x00 0x00 0x00 0xFF 0x0202 0xA0 [] = true := by decide

/-- BVC taken. -/
theorem test_step_bvc : ends (start defaults 0x0200 [0x50, 0x04] 0x00 0x00 0x00 0xFF 0x20 [])
    0x00 0x00 0x00 0xFF 0x0206 0x20 [] = true := by decide

/-- BVS taken. -/
theorem test_step_bvs : ends (start defaults 0x0200 [0x70, 0x04] 0x00 0x00 0x00 0xFF 0x60 [])
    0x00 0x00 0x00 0xFF 0x0206 0x60 [] = true := by decide

/-- BEQ at 0xFFFE wraps PC. -/
theorem test_step_beq_2 : ends (start defaults 0xFFFE [0xF0, 0x02] 0x00 0x00 0x00 0xFF 0x22 [])
    0x00 0x00 0x00 0xFF 0x0002 0x22 [] = true := by decide

/-- JMP abs. -/
theorem test_step_jmp_absolute : ends (start defaults 0x0200 [0x4C, 0x34, 0x12] 0x00 0x00 0x00 0xFF 0x20 [])
    0x00 0x00 0x00 0xFF 0x1234 0x20 [] = true := by decide

/-- JMP ind, no page wrap. -/
theorem test_step_jmp_indirect : ends (start defaults 0x0200 [0x6C, 0xFF, 0x10] 0x00 0x00 0x00 0xFF 0x20 [(0x1000, 0x56), (0x10FF, 0x34), (0x1100, 0x12)])
    0x00 0x00 0x00 0xFF 0x1234 0x20 [] = true := by decide

/-- JSR $1234 from 0x0600 (source §8). -/
theorem test_step_jsr_absolute : ends (start defaults 0x0600 [0x20, 0x34, 0x12] 0x00 0x00 0x00 0xFF 0x20 [])
    0x00 0x00 0x00 0xFD 0x1234 0x20 [(0x01FF, 0x06), (0x01FE, 0x02)] = true := by decide

/-- RTS to 0x0603 (source §8). -/
theorem test_step_rts : ends (start defaults 0x1234 [0x60] 0x00 0x00 0x00 0xFD 0x20 [(0x01FE, 0x02), (0x01FF, 0x06)])
    0x00 0x00 0x00 0xFF 0x0603 0x20 [] = true := by decide

/-- RTS with RTS_PULLS_STATUS=true. -/
theorem test_step_rts_2 : ends (start rtsPulls 0x1234 [0x60] 0x00 0x00 0x00 0xFC 0x20 [(0x01FD, 0xC3), (0x01FE, 0x02), (0x01FF, 0x06)])
    0x00 0x00 0x00 0xFF 0x0603 0xE3 [] = true := by decide

/-- RTI: P then PC, no +1. -/
theorem test_step_rti : ends (start defaults 0x8001 [0x40] 0x00 0x00 0x00 0xFC 0x20 [(0x01FD, 0xFF), (0x01FE, 0x04), (0x01FF, 0x00)])
    0x00 0x00 0x00 0xFF 0x0004 0xFF [] = true := by decide

/-- BRK with I=0 traps. -/
theorem test_step_brk : ends (start defaults 0x0003 [0x00] 0x00 0x00 0x00 0xFF 0xA0 [(0xFFFE, 0x00), (0xFFFF, 0x80)])
    0x00 0x00 0x00 0xFC 0x8000 0xA0 [(0x01FF, 0x00), (0x01FE, 0x04), (0x01FD, 0xB0)] = true := by decide

/-- BRK with I=1 is a no-op (default). -/
theorem test_step_brk_2 : ends (start defaults 0x0003 [0x00] 0x00 0x00 0x00 0xFF 0x24 [(0xFFFE, 0x00), (0xFFFF, 0x80)])
    0x00 0x00 0x00 0xFF 0x0004 0x24 [] = true := by decide

/-- LDA # zero. -/
theorem test_step_lda_immediate : ends (start defaults 0x0200 [0xA9, 0x00] 0x12 0x00 0x00 0xFF 0xA0 [])
    0x00 0x00 0x00 0xFF 0x0202 0x22 [] = true := by decide

/-- LDA # negative. -/
theorem test_step_lda_immediate_2 : ends (start defaults 0x0200 [0xA9, 0x80] 0x00 0x00 0x00 0xFF 0x20 [])
    0x80 0x00 0x00 0xFF 0x0202 0xA0 [] = true := by decide

/-- LDX zp,Y wraps in page 0. -/
theorem test_step_ldx_zero_page_y : ends (start defaults 0x0200 [0xB6, 0xF0] 0x00 0x00 0x20 0xFF 0x20 [(0x0010, 0x7F)])
    0x00 0x7F 0x20 0xFF 0x0202 0x20 [] = true := by decide

/-- LDY abs,X. -/
theorem test_step_ldy_absolute_x : ends (start defaults 0x0200 [0xBC, 0x00, 0x30] 0x00 0x05 0x00 0xFF 0x20 [(0x3005, 0x00)])
    0x00 0x05 0x00 0xFF 0x0203 0x22 [] = true := by decide

/-- LDA abs,Y wraps at 0xFFFF. -/
theorem test_step_lda_absolute_y : ends (start defaults 0x0200 [0xB9, 0xFF, 0xFF] 0x00 0x00 0x02 0xFF 0x20 [(0x0001, 0x42)])
    0x42 0x00 0x02 0xFF 0x0203 0x20 [] = true := by decide

/-- STA zp: no flags change. -/
theorem test_step_sta_zero_page : ends (start defaults 0x0200 [0x85, 0x10] 0x00 0x00 0x00 0xFF 0xA0 [])
    0x00 0x00 0x00 0xFF 0x0202 0xA0 [(0x0010, 0x00)] = true := by decide

/-- STX abs. -/
theorem test_step_stx_absolute : ends (start defaults 0x0200 [0x8E, 0x00, 0x30] 0x00 0x80 0x00 0xFF 0x22 [])
    0x00 0x80 0x00 0xFF 0x0203 0x22 [(0x3000, 0x80)] = true := by decide

/-- STY zp,X. -/
theorem test_step_sty_zero_page_x : ends (start defaults 0x0200 [0x94, 0xFF] 0x00 0x01 0x77 0xFF 0x20 [])
    0x00 0x01 0x77 0xFF 0x0202 0x20 [(0x0000, 0x77)] = true := by decide

/-- STA (zp,X), pointer at 0xFF reads 0x0100. -/
theorem test_step_sta_indirect_x : ends (start defaults 0x0200 [0x81, 0xFE] 0x11 0x01 0x00 0xFF 0x20 [(0x0000, 0x40), (0x00FF, 0x00), (0x0100, 0x30)])
    0x11 0x01 0x00 0xFF 0x0202 0x20 [(0x3000, 0x11)] = true := by decide

/-- PHA. -/
theorem test_step_pha : ends (start defaults 0x0200 [0x48] 0x42 0x00 0x00 0xFF 0x20 [])
    0x42 0x00 0x00 0xFE 0x0201 0x20 [(0x01FF, 0x42)] = true := by decide

/-- PHA with S=0: writes 0x0100, S wraps. -/
theorem test_step_pha_2 : ends (start defaults 0x0200 [0x48] 0x42 0x00 0x00 0x00 0x20 [])
    0x42 0x00 0x00 0xFF 0x0201 0x20 [(0x0100, 0x42)] = true := by decide

/-- PLA zero. -/
theorem test_step_pla : ends (start defaults 0x0200 [0x68] 0x42 0x00 0x00 0xFE 0x20 [(0x01FF, 0x00)])
    0x00 0x00 0x00 0xFF 0x0201 0x22 [] = true := by decide

/-- PLA with S=0xFF wraps to 0x0100. -/
theorem test_step_pla_2 : ends (start defaults 0x0200 [0x68] 0x00 0x00 0x00 0xFF 0x20 [(0x0100, 0x80)])
    0x80 0x00 0x00 0x00 0x0201 0xA0 [] = true := by decide

/-- PHP: pushed byte = pack(P). -/
theorem test_step_php : ends (start defaults 0x0200 [0x08] 0x00 0x00 0x00 0xFF 0xC3 [])
    0x00 0x00 0x00 0xFE 0x0201 0xE3 [(0x01FF, 0xE3)] = true := by decide

/-- PHP with B set in P. -/
theorem test_step_php_2 : ends (start defaults 0x0200 [0x08] 0x00 0x00 0x00 0xFF 0x30 [])
    0x00 0x00 0x00 0xFE 0x0201 0x30 [(0x01FF, 0x30)] = true := by decide

/-- PLP 0x00: bit 5 forced. -/
theorem test_step_plp : ends (start defaults 0x0200 [0x28] 0x00 0x00 0x00 0xFE 0xFF [(0x01FF, 0x00)])
    0x00 0x00 0x00 0xFF 0x0201 0x20 [] = true := by decide

/-- PLP 0xDF. -/
theorem test_step_plp_2 : ends (start defaults 0x0200 [0x28] 0x00 0x00 0x00 0xFE 0x20 [(0x01FF, 0xDF)])
    0x00 0x00 0x00 0xFF 0x0201 0xFF [] = true := by decide

/-- SEC. -/
theorem test_step_sec : ends (start defaults 0x0200 [0x38] 0x00 0x00 0x00 0xFF 0x20 [])
    0x00 0x00 0x00 0xFF 0x0201 0x21 [] = true := by decide

/-- CLC. -/
theorem test_step_clc : ends (start defaults 0x0200 [0x18] 0x00 0x00 0x00 0xFF 0x21 [])
    0x00 0x00 0x00 0xFF 0x0201 0x20 [] = true := by decide

/-- SED. -/
theorem test_step_sed : ends (start defaults 0x0200 [0xF8] 0x00 0x00 0x00 0xFF 0x20 [])
    0x00 0x00 0x00 0xFF 0x0201 0x28 [] = true := by decide

/-- CLD. -/
theorem test_step_cld : ends (start defaults 0x0200 [0xD8] 0x00 0x00 0x00 0xFF 0x28 [])
    0x00 0x00 0x00 0xFF 0x0201 0x20 [] = true := by decide

/-- SEI. -/
theorem test_step_sei : ends (start defaults 0x0200 [0x78] 0x00 0x00 0x00 0xFF 0x20 [])
    0x00 0x00 0x00 0xFF 0x0201 0x24 [] = true := by decide

/-- CLI. -/
theorem test_step_cli : ends (start defaults 0x0200 [0x58] 0x00 0x00 0x00 0xFF 0x24 [])
    0x00 0x00 0x00 0xFF 0x0201 0x20 [] = true := by decide

/-- CLV. -/
theorem test_step_clv : ends (start defaults 0x0200 [0xB8] 0x00 0x00 0x00 0xFF 0x60 [])
    0x00 0x00 0x00 0xFF 0x0201 0x20 [] = true := by decide

/-- TAX negative. -/
theorem test_step_tax : ends (start defaults 0x0200 [0xAA] 0x80 0x00 0x00 0xFF 0x20 [])
    0x80 0x80 0x00 0xFF 0x0201 0xA0 [] = true := by decide

/-- TAY zero. -/
theorem test_step_tay : ends (start defaults 0x0200 [0xA8] 0x00 0x00 0x12 0xFF 0x20 [])
    0x00 0x00 0x00 0xFF 0x0201 0x22 [] = true := by decide

/-- TSX. -/
theorem test_step_tsx : ends (start defaults 0x0200 [0xBA] 0x00 0x00 0x00 0xFD 0x20 [])
    0x00 0xFD 0x00 0xFD 0x0201 0xA0 [] = true := by decide

/-- TXA. -/
theorem test_step_txa : ends (start defaults 0x0200 [0x8A] 0xFF 0x01 0x00 0xFF 0xA0 [])
    0x01 0x01 0x00 0xFF 0x0201 0x20 [] = true := by decide

/-- TXS: no flags. -/
theorem test_step_txs : ends (start defaults 0x0200 [0x9A] 0x00 0x00 0x00 0xFF 0x20 [])
    0x00 0x00 0x00 0x00 0x0201 0x20 [] = true := by decide

/-- TYA. -/
theorem test_step_tya : ends (start defaults 0x0200 [0x98] 0x00 0x00 0x80 0xFF 0x20 [])
    0x80 0x00 0x80 0xFF 0x0201 0xA0 [] = true := by decide

/-- NOP. -/
theorem test_step_nop : ends (start defaults 0x0200 [0xEA] 0x12 0x00 0x00 0xFF 0xE3 [])
    0x12 0x00 0x00 0xFF 0x0201 0xE3 [] = true := by decide

/-- Section 2.8: the fault, nothing changed but `halted`. -/
theorem test_unknown_opcode :
    let s := start defaults 0x0200 [0x02] 0x12 0x00 0x00 0xFF 0x20 []
    step s = .fault (.unknownOpcode 0x02 0x0200) ∧ stateAfter s = { s with halted := true } := ⟨rfl, rfl⟩

/-- `withFetchWord` places the table's word where the next step fetches. -/
theorem test_withFetchWord : step (State.reset.withFetchWord 16 0x42A9) =
    exec (.ldaImmediate 0x42) (State.reset.withFetchWord 16 0x42A9) := rfl

/-! ### Effective addresses (95_test_vectors.md section 1.9, 40_addressing.md) -/

/-- The pointer 0x1234 at 0x00F0, and 0x3000 across the page at 0x00FF; X=0x10, Y=0x02, PC=0xFFFE. -/
abbrev pointers : State :=
  start defaults 0xFFFE [] 0x00 0x10 0x02 0xFF 0x20 [(0x00F0, 0x34), (0x00F1, 0x12), (0x0100, 0x30), (0x0008, 0x78)]

theorem test_indirectX : effectiveAddress (.indirectX 0xE0) pointers = 0x1234 := by decide

/-- The pointer's address wraps in the zero page: 0xF8 + 0x10 is 0x08. -/
theorem test_indirectX_wraps : effectiveAddress (.indirectX 0xF8) pointers = 0x0078 := by decide

/-- The pointer at 0x00FF has its high byte at 0x0100. -/
theorem test_indirectX_high_byte : effectiveAddress (.indirectX 0xEF) pointers = 0x3000 := by decide

theorem test_indirectY : effectiveAddress (.indirectY 0xF0) pointers = 0x1236 := by decide

theorem test_relative_wraps : effectiveAddress (.relative 0x80) pointers = 0xFF80 ∧
    effectiveAddress (.relative 0x7F) pointers = 0x007F := by decide

theorem test_absolute_index_wraps : effectiveAddress (.absoluteX 0xFFF8) pointers = 0x0008 ∧
    effectiveAddress (.zeroPageX 0xF8) pointers = 0x0008 ∧ effectiveAddress (.zeroPageY 0xFF) pointers = 0x0001 := by decide

/-! ### Witnesses: for each statement with hypotheses, states and operands that meet them -/

/-- LDA #$80 at 0x0200. -/
abbrev loadState : State := start defaults 0x0200 [0xA9, 0x80] 0x00 0x00 0x00 0xFF 0x20 []

/-- LDA #$80 across the top of memory: the opcode at 0xFFFF, its operand at 0x0000. -/
abbrev topState : State := start defaults 0xFFFF [0xA9, 0x80] 0x00 0x00 0x00 0xFF 0x20 []

/-- An opcode byte with no entry. -/
abbrev unknownState : State := start defaults 0x0200 [0x02] 0x12 0x00 0x00 0xFF 0x20 []

/-- A table in which 0x02 means STA # and 0x03 means LDA #, and 0xA9 means nothing. -/
abbrev otherTable : Config :=
  { tableChanges := [(0x02, some (.sta, .immediate)), (0x03, some (.lda, .immediate)), (0xA9, none)] }

/-- STA # under that table. -/
abbrev pairState : State := start otherTable 0x0200 [0x02, 0x07] 0x12 0x00 0x00 0xFF 0x20 []

/-- BRK at 0x0003 with the stack pointer given, the vector to 0x8000. -/
abbrev brkState (cfg : Config) (sp p : Byte) : State := start cfg 0x0003 [0x00] 0x00 0x00 0x00 sp p [(0xFFFF, 0x80)]

theorem test_witness_StepKeepsInvariant : Inv loadState ∧ ∃ t, step loadState = .next t := ⟨⟨rfl, rfl⟩, _, rfl⟩

theorem test_witness_StepKeepsInvariant_pair : Inv pairState ∧ ∃ t, step pairState = .next t := ⟨⟨rfl, rfl⟩, _, rfl⟩

theorem test_witness_StepNeverChangesParameters : ∃ t, step pairState = .next t := ⟨_, rfl⟩

theorem test_witness_DecimalFlagHasNoEffect :
    (∃ t, (Instr.adcImmediate 0x09).mnemonic ≠ .php ∧ (Instr.adcImmediate 0x09).mnemonic ≠ .brk ∧
      exec (.adcImmediate 0x09) loadState = .next t ∧ writesFlag (.adcImmediate 0x09) .d loadState = false) ∧
    (∃ t, Instr.sed.mnemonic ≠ .php ∧ Instr.sed.mnemonic ≠ .brk ∧
      exec .sed loadState = .next t ∧ writesFlag .sed .d loadState = true) :=
  ⟨⟨_, by decide, by decide, rfl, rfl⟩, _, by decide, by decide, rfl, rfl⟩

theorem test_witness_EncodeInvertsDecode : decode [0x6C, 0xFF, 0x10, 0xEA] = .instr (.jmpIndirect 0x10FF) [0xEA] := by
  decide

theorem test_witness_DecodeInvertsEncodeUnderAnyTable :
    encodeWith otherTable (.ldaImmediate 0x42) = some [0x03, 0x42] := by decide

theorem test_witness_UndocumentedBytesHaveNoEntry : unknownState.halted = false ∧
    unknownState.cfg.tableChanges = [] ∧ standardTable (unknownState.read unknownState.pc) = none := by decide

theorem test_witness_LengthIsFixedByMode :
    (Instr.beq 0xFE).operand ∈ ([.immediate 0xFE, .zeroPage 0xFE, .zeroPageX 0xFE, .zeroPageY 0xFE, .relative 0xFE,
      .indirectX 0xFE, .indirectY 0xFE] : List Operand) ∧
    (Instr.jmpIndirect 0x10FF).operand ∈
      ([.absolute 0x10FF, .absoluteX 0x10FF, .absoluteY 0x10FF, .indirect 0x10FF] : List Operand) ∧
    Instr.rolAccumulator.operand ∈ ([.accumulator, .implied] : List Operand) := by decide

theorem test_witness_StepRunsDecodedInstruction : topState.halted = false ∧
    (Instr.ldaImmediate 0x80).wellFormed = true ∧
    decodeWith topState.cfg [topState.read topState.pc, topState.read (topState.pc + 1), topState.read (topState.pc + 2)] =
      .instr (.ldaImmediate 0x80) [0x00] := by decide

theorem test_witness_StepRunsDecodedInstruction_pair : pairState.halted = false ∧
    decodeWith pairState.cfg
      [pairState.read pairState.pc, pairState.read (pairState.pc + 1), pairState.read (pairState.pc + 2)] =
      .reject (.nonStandardPair .sta (.immediate 0x07)) := by decide

theorem test_witness_UnknownOpcodeIsFatal : unknownState.halted = false ∧
    unknownState.cfg.opcodeTable (unknownState.read unknownState.pc) = none := by decide

theorem test_witness_HaltedBlockHasNoStep : (stateAfter unknownState).halted = true := by decide

theorem test_witness_OnlyUnknownOpcodesStopARunningBlock :
    loadState.halted = false ∧ loadState.cfg.opcodeTable (loadState.read loadState.pc) ≠ none ∧
    unknownState.halted = false ∧ unknownState.cfg.opcodeTable (unknownState.read unknownState.pc) = none := by decide

/-- The Immediate form at the top of memory: its operand byte is at 0x0000. -/
theorem test_witness_OperandIsByteAtEffectiveAddress :
    decodeWith topState.cfg [topState.read topState.pc, topState.read (topState.pc + 1), topState.read (topState.pc + 2)] =
      .instr (.ldaImmediate 0x80) [0x00] ∧
    effectiveAddress (Instr.ldaImmediate 0x80).operand topState = 0x0000 := by decide

theorem test_witness_UnindexedAndRelativeModesResolve :
    Mnemonic.adc ∈ ([.adc, .sbc, .and, .ora, .eor, .bit, .cmp, .cpx, .cpy, .lda, .ldx, .ldy] : List Mnemonic) ∧
    standardTable 0xF0 = some (.beq, .relative) := by decide

theorem test_witness_IndirectModesResolve : standardTable 0x6C = some (.jmp, .indirect) := by decide

/-- Every mnemonic whose statement speaks of all its forms has one. -/
theorem test_witness_Completes :
    [(Instr.adcImmediate 0).mnemonic, (Instr.sbcIndirectY 0).mnemonic, (Instr.andAbsoluteX 0).mnemonic,
      (Instr.oraZeroPageX 0).mnemonic, (Instr.eorIndirectX 0).mnemonic, (Instr.bitAbsolute 0).mnemonic,
      (Instr.cmpAbsoluteY 0).mnemonic, (Instr.cpxImmediate 0).mnemonic, (Instr.cpyZeroPage 0).mnemonic,
      (Instr.decAbsolute 0).mnemonic, (Instr.incZeroPageX 0).mnemonic, (Instr.ldaIndirectY 0).mnemonic,
      (Instr.ldxZeroPageY 0).mnemonic, (Instr.ldyAbsoluteX 0).mnemonic, (Instr.staIndirectX 0).mnemonic,
      (Instr.stxZeroPageY 0).mnemonic, (Instr.styZeroPageX 0).mnemonic] =
    [.adc, .sbc, .and, .ora, .eor, .bit, .cmp, .cpx, .cpy, .dec, .inc, .lda, .ldx, .ldy, .sta, .stx, .sty] := by decide

theorem test_witness_ShiftsMoveOneBit :
    ((Instr.aslZeroPage 0xFF).mnemonic = .asl ∧ (Instr.aslZeroPage 0xFF).operand ≠ .accumulator) ∧
    ((Instr.lsrAbsoluteX 0xFFFF).mnemonic = .lsr ∧ (Instr.lsrAbsoluteX 0xFFFF).operand ≠ .accumulator) ∧
    ((Instr.rolZeroPageX 0xFF).mnemonic = .rol ∧ (Instr.rolZeroPageX 0xFF).operand ≠ .accumulator) ∧
    ((Instr.rorAbsolute 0).mnemonic = .ror ∧ (Instr.rorAbsolute 0).operand ≠ .accumulator) := by decide

theorem test_witness_RtsReturnsPastThePulledAddress :
    State.reset.cfg.rtsPullsStatus = false ∧ (construct rtsPulls []).cfg.rtsPullsStatus = true := by decide

/-- With S=0x00 the pushed word wraps within page 1; with S=0xFF it does not. -/
theorem test_witness_JsrThenRtsReturnsPastJsr (sp : Byte) (_ : sp = 0x00 ∨ sp = 0xFF) :
    let s := start defaults 0x0600 [0x20, 0x34, 0x12] 0x00 0x00 0x00 sp 0x20 []
    ∃ t, exec (.jsr 0x1234) s = .next t ∧ t.cfg.rtsPullsStatus = false ∧ t.sp = t.sp ∧
      t.read (stackAddress (t.sp + 1)) = t.read (stackAddress (t.sp + 1)) ∧
      t.read (stackAddress (t.sp + 2)) = t.read (stackAddress (t.sp + 2)) := ⟨_, rfl, rfl, rfl, rfl, rfl⟩

theorem test_witness_BrkTrapsUnlessMasked :
    ((brkState defaults 0xFF 0x24).cfg.brkMaskedByI = true ∧ (brkState defaults 0xFF 0x24).p.i = true) ∧
    ((brkState { brkMaskedByI := false } 0xFF 0x24).cfg.brkMaskedByI = false ∨
      (brkState { brkMaskedByI := false } 0xFF 0x24).p.i = false) ∧
    ((brkState defaults 0x00 0x20).cfg.brkMaskedByI = false ∨ (brkState defaults 0x00 0x20).p.i = false) := by decide

/-- Section 2.4: I set, `BRK_MASKED_BY_I` off. -/
theorem test_witness_BrkTrapsUnlessMasked_unmasked : ends (brkState { brkMaskedByI := false } 0xFF 0x24)
    0x00 0x00 0x00 0xFC 0x8000 0x24 [(0x01FF, 0x00), (0x01FE, 0x04), (0x01FD, 0x34)] = true := by decide

/-- Section 2.4: `BRK_SETS_I` on. -/
theorem test_witness_BrkTrapsUnlessMasked_setsI : ends (brkState { brkSetsI := true } 0xFF 0x20)
    0x00 0x00 0x00 0xFC 0x8000 0x24 [(0x01FF, 0x00), (0x01FE, 0x04), (0x01FD, 0x30)] = true := by decide

/-- Section 2.4: S=0x00, the stack wraps. -/
theorem test_witness_BrkTrapsUnlessMasked_wraps : ends (brkState defaults 0x00 0x20)
    0x00 0x00 0x00 0xFD 0x8000 0x20 [(0x0100, 0x00), (0x01FF, 0x04), (0x01FE, 0x30)] = true := by decide

theorem test_witness_BrkThenRtiReturnsPastBrk :
    ∃ t, brkTraps (brkState defaults 0x00 0x20) = true ∧ exec .brk (brkState defaults 0x00 0x20) = .next t ∧
      t.sp = 0xFD ∧ t.read (stackAddress (t.sp + 1)) = 0x30 ∧ t.read (stackAddress (t.sp + 2)) = 0x04 ∧
      t.read (stackAddress (t.sp + 3)) = 0x00 := ⟨_, rfl, rfl, rfl, rfl, rfl, rfl⟩

theorem test_witness_PhpThenPlpRestoresStatus :
    ∃ t, exec .php (brkState defaults 0x00 0xC3) = .next t ∧ t.sp = 0xFF ∧ t.read (stackAddress (t.sp + 1)) = 0xE3 :=
  ⟨_, rfl, rfl, rfl⟩

/-- An instruction that writes none of the four registers, and one that writes each. -/
theorem test_witness_RegisterFrame :
    (∃ t, exec (.staZeroPage 0x10) loadState = .next t ∧ writesA (.staZeroPage 0x10) = false ∧
      writesX (.staZeroPage 0x10) = false ∧ writesY (.staZeroPage 0x10) = false ∧
      writesSP (.staZeroPage 0x10) loadState = false) ∧
    (∃ t, exec .brk (brkState defaults 0xFF 0x24) = .next t ∧ writesSP .brk (brkState defaults 0xFF 0x24) = false) :=
  ⟨⟨_, rfl, rfl, rfl, rfl, rfl⟩, _, rfl, rfl⟩

theorem test_witness_FlagFrame :
    (∃ t, exec (.adcImmediate 0xFF) loadState = .next t ∧ writesFlag (.adcImmediate 0xFF) .d loadState = false) ∧
    (∃ t, exec .rts loadState = .next t ∧ writesFlag .rts .c loadState = false) := ⟨⟨_, rfl, rfl⟩, _, rfl, rfl⟩

/-- A store, beside its address, and a form that stores nothing. -/
theorem test_witness_MemoryFrame :
    (∃ t, exec (.staZeroPage 0x10) loadState = .next t ∧ 0x0011 ∉ storesTo (.staZeroPage 0x10) loadState) ∧
    (∃ t, exec .aslAccumulator loadState = .next t ∧ 0x0000 ∉ storesTo .aslAccumulator loadState) :=
  ⟨⟨_, rfl, by decide⟩, _, rfl, by decide⟩

theorem test_witness_SequentialInstructionsAdvancePC :
    ∃ t, exec (.ldaImmediate 0x80) topState = .next t ∧ (Instr.ldaImmediate 0x80).mnemonic ∉
      ([.bcc, .bcs, .beq, .bmi, .bne, .bpl, .bvc, .bvs, .jmp, .jsr, .rts, .rti, .brk] : List Mnemonic) :=
  ⟨_, rfl, by decide⟩

theorem test_witness_TraceAccountsForMemory : ∃ t, step (brkState defaults 0x00 0x20) = .next t := ⟨_, rfl⟩

/-- A run that stops at once, one that goes on, one that faults. -/
theorem test_witness_RunsAreNeverRefused : loadState.halted = false ∧
    runUntil 0x0200 1 loadState = .stopped loadState ∧ (∃ t, runUntil 0x0300 1 loadState = .going t) ∧
    (∃ f t, runUntil 0x0300 1 unknownState = .faulted f t) := ⟨rfl, rfl, ⟨_, rfl⟩, _, _, rfl⟩

/-- The trace of a trapping BRK in order (20_memory.md rule R58): the opcode, the three pushes, the vector. -/
theorem test_trace_brk : stepAccesses (brkState defaults 0xFF 0xA0) =
    [.read 0x0003, .write 0x01FF 0x00, .write 0x01FE 0x04, .write 0x01FD 0xB0, .read 0xFFFE, .read 0xFFFF] := by decide

end Sys2Proof.Tests
end

section
/-! The status byte and the flag update logic (10_state.md sections 2 and 3): each bit of the packed status, `unpack` as
its inverse, and what setting one flag leaves in every flag. -/

namespace Sys2Proof.Machine

/-- Bit `j` of the packed status is the flag whose position is `j`, and bit 5 is set (10_state.md rule R26). -/
theorem pack_getElem (p : Status) (j : Nat) (hj : j < 8) :
    (pack p)[j] = (decide (j = 7) && p.n || decide (j = 6) && p.v || decide (j = 5) || decide (j = 4) && p.b ||
      decide (j = 3) && p.d || decide (j = 2) && p.i || decide (j = 1) && p.z || decide (j = 0) && p.c) := by
  rw [← BitVec.getLsbD_eq_getElem]
  simp [pack, bitAt_getLsbD _ _ j hj]

@[simp] theorem pack_bit0 (p : Status) : (pack p)[0] = p.c := by simp [pack_getElem]
@[simp] theorem pack_bit1 (p : Status) : (pack p)[1] = p.z := by simp [pack_getElem]
@[simp] theorem pack_bit2 (p : Status) : (pack p)[2] = p.i := by simp [pack_getElem]
@[simp] theorem pack_bit3 (p : Status) : (pack p)[3] = p.d := by simp [pack_getElem]
@[simp] theorem pack_bit4 (p : Status) : (pack p)[4] = p.b := by simp [pack_getElem]
@[simp] theorem pack_bit5 (p : Status) : (pack p)[5] = true := by simp [pack_getElem]
@[simp] theorem pack_bit6 (p : Status) : (pack p)[6] = p.v := by simp [pack_getElem]
@[simp] theorem pack_bit7 (p : Status) : (pack p)[7] = p.n := by simp [pack_getElem]

/-- Bit 5 is not stored, so packing loses no flag (10_state.md rule R32). -/
@[simp] theorem unpack_pack (p : Status) : unpack (pack p) = p := by simp [unpack]

/-- The one bit that a byte does not get back is the ALWAYS-SET one (10_state.md rule R26). -/
@[simp] theorem pack_unpack (b : Byte) : pack (unpack b) = b ||| 0x20 := by
  apply BitVec.eq_of_getElem_eq
  intro j hj
  rw [BitVec.getElem_or]
  interval_cases j <;> simp [unpack]

/-- Reading any flag after setting one (10_state.md rules R28, R29). -/
theorem Status.get_set (p : Status) (f g : Flag) (value : Bool) :
    (p.set f value).get g = if g = f then value else p.get g := by
  by_cases h : g = f
  · rw [if_pos h, h, Status.get_set_same]
  · rw [if_neg h, Status.get_set_other p value h]

/-- Settles O10, from the bits of the packed status. -/
theorem packedStatusForcesBitFive : Obligations.PackedStatusForcesBitFive := by
  unfold Obligations.PackedStatusForcesBitFive
  constructor
  · intro p
    exact ⟨pack_bit0 p, pack_bit1 p, pack_bit2 p, pack_bit3 p, pack_bit4 p, pack_bit5 p, pack_bit6 p, pack_bit7 p,
      unpack_pack p⟩
  · intro b
    exact ⟨pack_unpack b, rfl⟩

/-- Settles O11: the flag that was set, and every other flag. -/
theorem setWritesExactlyOneFlag : Obligations.SetWritesExactlyOneFlag :=
  Status.get_set

end Sys2Proof.Machine
end

section
/-! Encoding (30_encoding.md sections 1, 3 and 4): the operand bytes each kind of operand encodes to, the bytes that
`STANDARD_TABLE` leaves without an entry, and the fetch of such a byte. -/

namespace Sys2Proof

/-! ### The length of an instruction and the places of its operand bytes -/

/-- The encoder writes as many operand bytes as the decoder's mode consumes (30_encoding.md rule R68). -/
@[simp] theorem Operand.bytes_length (op : Operand) : op.bytes.length = op.mode.operandBytes := by
  cases op <;> rfl

theorem encode_tail (i : Instr) : (encode i).tail = i.operand.bytes := rfl

theorem encode_length (i : Instr) : (encode i).length = 1 + i.operand.mode.operandBytes := by
  rw [encode, List.length_cons, Operand.bytes_length, Nat.add_comm]

/-- The modes in the three rows of 30_encoding.md rule R68's column of operand bytes. -/
theorem Mode.operandBytes_eq (mode : Mode) : mode.operandBytes =
    if mode ∈ [.accumulator, .implied] then 0
    else if mode ∈ [.absolute, .absoluteX, .absoluteY, .indirect] then 2 else 1 := by
  cases mode <;> rfl

theorem Operand.bytes_of_mem_oneByte {op : Operand} {v : Byte}
    (h : op ∈ ([.immediate v, .zeroPage v, .zeroPageX v, .zeroPageY v, .relative v, .indirectX v, .indirectY v] :
      List Operand)) : op.bytes = [v] := by
  simp only [List.mem_cons, List.not_mem_nil, or_false] at h
  obtain rfl | rfl | rfl | rfl | rfl | rfl | rfl := h <;> rfl

/-- The low byte stands first (30_encoding.md rule R68). -/
theorem Operand.bytes_of_mem_word {op : Operand} {w : Word}
    (h : op ∈ ([.absolute w, .absoluteX w, .absoluteY w, .indirect w] : List Operand)) :
    op.bytes = [w.extractLsb' 0 8, w.extractLsb' 8 8] := by
  simp only [List.mem_cons, List.not_mem_nil, or_false] at h
  obtain rfl | rfl | rfl | rfl := h <;> rfl

theorem Operand.bytes_of_mem_noBytes {op : Operand} (h : op ∈ ([.accumulator, .implied] : List Operand)) :
    op.bytes = [] := by
  simp only [List.mem_cons, List.not_mem_nil, or_false] at h
  obtain rfl | rfl := h <;> rfl

/-- Settles O20: the opcode is one byte, and what follows it is the operand's bytes, which the operand's kind fixes. -/
theorem lengthIsFixedByMode : Obligations.LengthIsFixedByMode := by
  unfold Obligations.LengthIsFixedByMode
  simp only [encode_tail]
  exact ⟨Mode.operandBytes_eq, fun i => ⟨encode_length i, (encode_length i).symm⟩,
    fun _ _ => Operand.bytes_of_mem_oneByte, fun _ _ => Operand.bytes_of_mem_word,
    fun _ => Operand.bytes_of_mem_noBytes⟩

/-! ### The bytes without an entry -/

/-- Sixteen rows of sixteen entries, one for each byte (30_encoding.md rule R77). -/
theorem tableGrid_length : tableGrid.length = 256 := by
  simp only [tableGrid, List.length_append]
  rfl

/-- The opcode bytes of an entry are its positions in the grid (30_encoding.md rule R77). -/
theorem standardTable_eq_iff_mem_idxsOf (b : Byte) (entry : TableEntry) :
    standardTable b = entry ↔ b.toNat ∈ tableGrid.idxsOf entry := by
  have hb : b.toNat < tableGrid.length := tableGrid_length ▸ b.isLt
  rw [List.mem_idxsOf_iff_getElem_pos hb, beq_iff_eq, standardTable, List.getD_eq_getElem _ _ hb]

/-- One walk over the grid, with no case for each byte, checks a list of all the opcode bytes of an entry. -/
theorem standardTable_eq_iff_mem {entry : TableEntry} {bytes : List Byte}
    (h : tableGrid.idxsOf entry = bytes.map BitVec.toNat) (b : Byte) : standardTable b = entry ↔ b ∈ bytes := by
  rw [standardTable_eq_iff_mem_idxsOf, h, List.mem_map_of_injective BitVec.toNat_injective]

/-- With no change listed, `OPCODE_TABLE` is `STANDARD_TABLE` (00_scope.md rule R9). -/
theorem Config.opcodeTable_of_no_changes {cfg : Config} (h : cfg.tableChanges = []) (b : Byte) :
    cfg.opcodeTable b = standardTable b := by
  simp [Config.opcodeTable, h]

namespace Machine

/-- The fetch depends on the table's entry for the opcode byte alone (30_encoding.md rules R72, R74). -/
theorem fetch_eq_none_iff (s : State) : fetch s = none ↔ s.cfg.opcodeTable (s.read s.pc) = none := by
  rw [fetch, fetchOpcode]
  cases s.cfg.opcodeTable (s.read s.pc) <;> simp

/-- A byte with no entry raises the fatal fault with the byte and its address (30_encoding.md rule R74). -/
theorem step_of_no_entry {s : State} (hh : s.halted = false) (h : s.cfg.opcodeTable (s.read s.pc) = none) :
    step s = .fault (.unknownOpcode (s.read s.pc) s.pc) :=
  step_of_no_fetch hh ((fetch_eq_none_iff s).mpr h)

/-- Settles O19: a walk over the grid finds the 105 bytes, and with no changes the block's table is the grid. -/
theorem undocumentedBytesHaveNoEntry : Obligations.UndocumentedBytesHaveNoEntry := by
  unfold Obligations.UndocumentedBytesHaveNoEntry
  constructor
  · exact standardTable_eq_iff_mem (by decide)
  · intro s hh hc hb
    exact step_of_no_entry hh ((Config.opcodeTable_of_no_changes hc _).trans hb)

end Machine
end Sys2Proof
end

section
/-! The addressing resolver (40_addressing.md): the opcodes that `STANDARD_TABLE` gives a mode, the word operand
by its two bytes, and what each mode resolves to. -/

namespace Sys2Proof

/-! ### The opcodes of a mode -/

/-- The rows of `STANDARD_TABLE` whose pair meets a condition, in opcode order (30_encoding.md rule R77). -/
def tableRows (p : Mnemonic × Mode → Bool) : List (Nat × Mnemonic × Mode) :=
  tableGrid.zipIdx.filterMap fun (entry, opcode) => (entry.filter p).map (opcode, ·)

/-- One walk over the grid, with no case for each byte, finds every opcode whose pair meets a condition. -/
theorem standardTable_eq_some_iff_mem_tableRows {p : Mnemonic × Mode → Bool} {pair : Mnemonic × Mode}
    (hp : p pair = true) (b : Byte) : standardTable b = some pair ↔ (b.toNat, pair) ∈ tableRows p := by
  have hb : b.toNat < tableGrid.length := tableGrid_length ▸ b.isLt
  rw [standardTable, List.getD_eq_getElem _ _ hb]
  simp [tableRows, List.mem_filterMap, List.mem_zipIdx_iff_getElem?, List.getElem?_eq_getElem hb, hp]

theorem standardTable_mode_iff (mode : Mode) (b : Byte) (mn : Mnemonic) :
    standardTable b = some (mn, mode) ↔ (b.toNat, mn, mode) ∈ tableRows (·.2 = mode) :=
  standardTable_eq_some_iff_mem_tableRows (decide_eq_true rfl) b

theorem tableRows_relative : tableRows (·.2 = .relative) =
    [(0x10, .bpl, .relative), (0x30, .bmi, .relative), (0x50, .bvc, .relative), (0x70, .bvs, .relative),
      (0x90, .bcc, .relative), (0xB0, .bcs, .relative), (0xD0, .bne, .relative), (0xF0, .beq, .relative)] := by
  decide

theorem tableRows_zeroPageY :
    tableRows (·.2 = .zeroPageY) = [(0x96, .stx, .zeroPageY), (0xB6, .ldx, .zeroPageY)] := by
  decide

theorem tableRows_indirect : tableRows (·.2 = .indirect) = [(0x6C, .jmp, .indirect)] := by
  decide

/-- Only branches are Relative (40_addressing.md rule R95). -/
theorem mnemonic_of_relative {b : Byte} {mn : Mnemonic} (h : standardTable b = some (mn, .relative)) :
    mn ∈ ([.bcc, .bcs, .beq, .bmi, .bne, .bpl, .bvc, .bvs] : List Mnemonic) := by
  have hbranches : (tableRows (·.2 = .relative)).map (·.2.1) ⊆
      [.bcc, .bcs, .beq, .bmi, .bne, .bpl, .bvc, .bvs] := by
    rw [tableRows_relative]
    decide
  exact hbranches (List.mem_map_of_mem ((standardTable_mode_iff _ b mn).mp h))

/-- ZeroPageY is the mode of two opcodes (40_addressing.md rule R91). -/
theorem standardTable_zeroPageY_iff (b : Byte) (mn : Mnemonic) :
    standardTable b = some (mn, .zeroPageY) ↔ (b, mn) ∈ [(0xB6, .ldx), (0x96, .stx)] := by
  rw [standardTable_mode_iff, tableRows_zeroPageY]
  simp [← BitVec.toNat_inj, or_comm]

/-- Only JMP is Indirect (40_addressing.md rule R96). -/
theorem mnemonic_of_indirect {b : Byte} {mn : Mnemonic} (h : standardTable b = some (mn, .indirect)) : mn = .jmp := by
  rw [standardTable_mode_iff, tableRows_indirect] at h
  simp only [List.mem_singleton, Prod.mk.injEq] at h
  obtain ⟨-, hmn, -⟩ := h
  exact hmn

namespace Machine
open Rules

/-! ### The bytes after the opcode -/

/-- The concatenation of two bytes as a shift and an or (20_memory.md rule R48). -/
theorem readWord_eq_littleEndian (s : State) (addr : Word) : s.readWord addr = littleEndian s addr := by
  rw [State.readWord, wordOf, littleEndian, ← BitVec.setWidth_eq (_ ++ _),
    BitVec.setWidth_append_eq_shiftLeft_setWidth_or]
  rfl

/-- The second operand byte is two past the opcode, also across 0xFFFF. -/
theorem pc_add_one_add_one (s : State) : s.pc + 1 + 1 = s.pc + 2 := BitVec.add_assoc ..

/-- The word operand is the little-endian word after the opcode (40_addressing.md rule R92). -/
theorem wordOf_operandBytes (s : State) :
    wordOf (s.read (s.pc + 1)) (s.read (s.pc + 2)) = littleEndian s (s.pc + 1) := by
  rw [← readWord_eq_littleEndian, State.readWord, pc_add_one_add_one]

/-- The two operand bytes are read in order (40_addressing.md rule R92). -/
theorem readsWord_operandBytes (s : State) : readsWord (s.pc + 1) = [.read (s.pc + 1), .read (s.pc + 2)] := by
  rw [readsWord, pc_add_one_add_one]

theorem operandAtPC_absolute (s : State) : operandAtPC .absolute s = .absolute (littleEndian s (s.pc + 1)) :=
  congrArg Operand.absolute (wordOf_operandBytes s)

theorem operandAtPC_absoluteX (s : State) : operandAtPC .absoluteX s = .absoluteX (littleEndian s (s.pc + 1)) :=
  congrArg Operand.absoluteX (wordOf_operandBytes s)

theorem operandAtPC_absoluteY (s : State) : operandAtPC .absoluteY s = .absoluteY (littleEndian s (s.pc + 1)) :=
  congrArg Operand.absoluteY (wordOf_operandBytes s)

theorem operandAtPC_indirect (s : State) : operandAtPC .indirect s = .indirect (littleEndian s (s.pc + 1)) :=
  congrArg Operand.indirect (wordOf_operandBytes s)

/-! ### Resolving a mode -/

/-- Resolving changes `PC` alone, to past the bytes that the mode fixes (40_addressing.md rule R85). -/
theorem pastInstruction_operandAtPC (mode : Mode) (s : State) :
    pastInstruction (operandAtPC mode s) s = { s with pc := s.pc + (1 + BitVec.ofNat 16 mode.operandBytes) } := by
  rw [pastInstruction, nextPC, operandAtPC, operandOf_mode, BitVec.add_assoc]
  rfl

/-- Since rule R85 fixes the state after resolving, a mode is settled by its operand and that operand's effective
address and reads. -/
theorem resolvesTo_of_operand {mode : Mode} {ea : State → Word} {length : Word} {accesses : State → List Access}
    {operand : State → Operand} (hoperand : ∀ s, operandAtPC mode s = operand s)
    (hlength : 1 + BitVec.ofNat 16 mode.operandBytes = length) (hea : ∀ s, effectiveAddress (operand s) s = ea s)
    (haccesses : ∀ s, resolverAccesses (operand s) s = accesses s) : ResolvesTo mode ea length accesses := by
  intro s
  constructor
  · rw [resolve, pastInstruction_operandAtPC, hlength, hoperand, hea]
  · rw [hoperand, haccesses]

/-- Settles O30: the pointer of each mode is read as a little-endian word, whose high byte is one above the low byte. -/
theorem indirectModesResolve : Obligations.IndirectModesResolve := by
  unfold Obligations.IndirectModesResolve
  refine ⟨resolvesTo_of_operand operandAtPC_indirect rfl ?indirectAddress ?indirectReads,
    resolvesTo_of_operand (fun _ => rfl) rfl ?indirectXAddress (fun _ => rfl),
    resolvesTo_of_operand (fun _ => rfl) rfl ?indirectYAddress (fun _ => rfl), fun _ _ => mnemonic_of_indirect⟩
  case indirectAddress => exact fun s => readWord_eq_littleEndian s _
  case indirectReads => exact fun s => congrArg (· ++ readsWord _) (readsWord_operandBytes s)
  case indirectXAddress => exact fun s => readWord_eq_littleEndian s _
  case indirectYAddress => exact fun s => congrArg (· + zext16 s.y) (readWord_eq_littleEndian s _)

/-- An executor that takes its operand from memory reads it once, at the effective address (20_memory.md rule R58). -/
theorem executorAccesses_of_operand_read {mn : Mnemonic}
    (h : mn ∈ ([.adc, .sbc, .and, .ora, .eor, .bit, .cmp, .cpx, .cpy, .lda, .ldx, .ldy] : List Mnemonic))
    (op : Operand) (s : State) : executorAccesses mn op s = [.read (effectiveAddress op s)] := by
  simp only [List.mem_cons, List.not_mem_nil, or_false] at h
  obtain rfl | rfl | rfl | rfl | rfl | rfl | rfl | rfl | rfl | rfl | rfl | rfl := h <;> rfl

/-- Settles O27: the four modes by their operand, the executor's one read, and the branches by the grid. -/
theorem unindexedAndRelativeModesResolve : Obligations.UnindexedAndRelativeModesResolve := by
  unfold Obligations.UnindexedAndRelativeModesResolve
  exact ⟨resolvesTo_of_operand (fun _ => rfl) rfl (fun _ => rfl) (fun _ => rfl),
    resolvesTo_of_operand (fun _ => rfl) rfl (fun _ => rfl) (fun _ => rfl),
    resolvesTo_of_operand (fun _ => rfl) rfl (fun _ => rfl) (fun _ => rfl),
    resolvesTo_of_operand (fun _ => rfl) rfl (fun _ => rfl) (fun _ => rfl),
    fun _ v s hmn => executorAccesses_of_operand_read hmn (.immediate v) s, fun _ _ => mnemonic_of_relative⟩

/-- Settles O28: the operand is the byte after the opcode, and the two opcodes of ZeroPageY come from the grid. -/
theorem zeroPageModesResolve : Obligations.ZeroPageModesResolve := by
  unfold Obligations.ZeroPageModesResolve
  exact ⟨resolvesTo_of_operand (fun _ => rfl) rfl (fun _ => rfl) (fun _ => rfl),
    resolvesTo_of_operand (fun _ => rfl) rfl (fun _ => rfl) (fun _ => rfl),
    resolvesTo_of_operand (fun _ => rfl) rfl (fun _ => rfl) (fun _ => rfl), standardTable_zeroPageY_iff⟩

/-- Settles O29: the operand is the little-endian word after the opcode, and its two bytes are all that is read. -/
theorem absoluteModesResolve : Obligations.AbsoluteModesResolve := by
  unfold Obligations.AbsoluteModesResolve
  exact ⟨resolvesTo_of_operand operandAtPC_absolute rfl (fun _ => rfl) readsWord_operandBytes,
    resolvesTo_of_operand operandAtPC_absoluteX rfl (fun _ => rfl) readsWord_operandBytes,
    resolvesTo_of_operand operandAtPC_absoluteY rfl (fun _ => rfl) readsWord_operandBytes⟩

end Machine
end Sys2Proof
end

section
/-! Every row of a mnemonic: its opcodes in the grid (30_encoding.md rules R77, R78), and its arm of the executor as the
mnemonic's handler (rule R73). -/

namespace Sys2Proof

/-! ### The grid line by line

A walk over the 256 entries as one list is too deep to evaluate for an opcode near its end; sixteen walks of sixteen
entries are not. -/

/-- The grid's lines in opcode order. -/
def tableLines : List (List TableEntry) :=
  [tableRow0, tableRow1, tableRow2, tableRow3, tableRow4, tableRow5, tableRow6, tableRow7,
    tableRow8, tableRow9, tableRowA, tableRowB, tableRowC, tableRowD, tableRowE, tableRowF]

theorem flatten_tableLines : tableLines.flatten = tableGrid := by
  simp only [tableLines, tableGrid, List.flatten_cons, List.flatten_nil, List.append_assoc, List.append_nil]

theorem length_of_mem_tableLines : ∀ line ∈ tableLines, line.length = 16 := by
  decide

/-- The entries whose pair meets a condition, the first entry being that of a given opcode. -/
def rowsFrom (p : Mnemonic × Mode → Bool) (opcode : Nat) (entries : List TableEntry) :
    List (Nat × Mnemonic × Mode) :=
  (entries.zipIdx opcode).filterMap fun (entry, k) => (entry.filter p).map (k, ·)

theorem rowsFrom_append (p : Mnemonic × Mode → Bool) (opcode : Nat) (es fs : List TableEntry) :
    rowsFrom p opcode (es ++ fs) = rowsFrom p opcode es ++ rowsFrom p (opcode + es.length) fs := by
  rw [rowsFrom, List.zipIdx_append, List.filterMap_append]
  rfl

/-- The same line by line, the first line having a given number. -/
def rowsOfLines (p : Mnemonic × Mode → Bool) (n : Nat) (lines : List (List TableEntry)) :
    List (Nat × Mnemonic × Mode) :=
  (lines.zipIdx n).flatMap fun (line, m) => rowsFrom p (16 * m) line

theorem rowsFrom_flatten (p : Mnemonic × Mode → Bool) {lines : List (List TableEntry)}
    (h : ∀ line ∈ lines, line.length = 16) (n : Nat) : rowsFrom p (16 * n) lines.flatten = rowsOfLines p n lines := by
  induction lines generalizing n with
  | nil => rfl
  | cons line lines ih =>
    rw [List.forall_mem_cons] at h
    obtain ⟨hline, hlines⟩ := h
    rw [List.flatten_cons, rowsFrom_append, hline, ← Nat.mul_succ, ih hlines]
    rfl

theorem tableRows_eq_rowsOfLines (p : Mnemonic × Mode → Bool) : tableRows p = rowsOfLines p 0 tableLines := by
  rw [← rowsFrom_flatten p length_of_mem_tableLines, flatten_tableLines]
  rfl

namespace Machine
open Rules

/-- One walk over the lines checks the opcodes of a mnemonic, in whatever order a rule lists them (30_encoding.md
rule R78). -/
theorem encodedAs_of_perm {mn : Mnemonic} {rows : List (Byte × Mode)}
    (h : (rows.map fun row => (row.1.toNat, mn, row.2)).Perm (rowsOfLines (·.1 = mn) 0 tableLines)) :
    EncodedAs mn rows := by
  intro b mode
  have hinj : Function.Injective fun row : Byte × Mode => (row.1.toNat, mn, row.2) := by
    rintro ⟨b₁, mode₁⟩ ⟨b₂, mode₂⟩ heq
    simpa [BitVec.toNat_inj] using heq
  rw [standardTable_eq_some_iff_mem_tableRows (p := (·.1 = mn)) (decide_eq_true rfl), tableRows_eq_rowsOfLines,
    ← h.mem_iff]
  exact List.mem_map_of_injective hinj (a := (b, mode))

/-! ### The arms of the executor -/

/-- Each arm of the executor is its mnemonic's handler on the row's operand (30_encoding.md rule R73). -/
theorem exec_eq_handler (i : Instr) (s : State) : exec i s = .next (handler i.mnemonic i.operand s) := by
  cases i <;> rfl

/-- What a mnemonic's handler does on every operand, each of its rows does. -/
theorem completes_of_handler {mn : Mnemonic} {effect : Instr → State → State}
    (h : ∀ i s, handler mn i.operand s = effect i s) : Completes mn effect := by
  rintro i s rfl
  rw [exec_eq_handler, h]

/-- Resolving an instruction's operand moves `PC` past the instruction (40_addressing.md rule R85). -/
theorem pastInstruction_operand (i : Instr) (s : State) : pastInstruction i.operand s = { s with pc := next i s } := by
  rw [pastInstruction_eq, nextPC_eq_length]
  rfl

theorem setP_pastInstruction (i : Instr) (p : Status) (s : State) :
    (pastInstruction i.operand s).setP p = { s with pc := next i s, p := p } := by
  rw [pastInstruction_operand]
  rfl

end Machine
end Sys2Proof
end

section
/-! The adder, logic, compare and BIT instructions (41_alu.md): the adder and the comparator on bytes, and the state
after each handler. -/

namespace Sys2Proof.Machine
open Rules

/-! ### The adder -/

/-- Two bytes and a carry are less than 512, so one carry bit holds all that the result loses (41_alu.md rule R101). -/
theorem add8_exact (a b : Byte) (cin : Bool) :
    (add8 a b cin).result.toNat + 256 * (add8 a b cin).carry.toNat = a.toNat + b.toNat + cin.toNat := by
  have hcin := cin.toNat_le
  have hresult : (add8 a b cin).result.toNat = (a.toNat + b.toNat + cin.toNat) % 256 := BitVec.toNat_ofNat ..
  have hcarry : (add8 a b cin).carry.toNat = if 256 ≤ a.toNat + b.toNat + cin.toNat then 1 else 0 :=
    Bool.cond_decide ..
  rw [hresult, hcarry]
  split <;> omega

theorem add8_carry_iff (a b : Byte) (cin : Bool) :
    (add8 a b cin).carry = true ↔ 256 ≤ a.toNat + b.toNat + cin.toNat :=
  decide_eq_true_iff

theorem add8_overflow_iff (a b : Byte) (cin : Bool) :
    (add8 a b cin).overflow = true ↔ a[7] = b[7] ∧ (add8 a b cin).result[7] ≠ a[7] := by
  rw [add8, Bool.and_eq_true, beq_iff_eq, bne_iff_ne]

/-- The two addends agree in sign and the result does not exactly when it differs from both (41_alu.md rule R101). -/
theorem beq_and_bne_eq_xor_and_xor (a b r : Bool) : (a == b && r != a) = ((a ^^ r) && (b ^^ r)) := by
  decide +revert

theorem add8_overflow_eq_xor (a b : Byte) (cin : Bool) :
    (add8 a b cin).overflow = ((a ^^^ (add8 a b cin).result) &&& (b ^^^ (add8 a b cin).result))[7] := by
  rw [BitVec.getElem_and, BitVec.getElem_xor, BitVec.getElem_xor]
  exact beq_and_bne_eq_xor_and_xor ..

/-- Settles O12: the narrowed sum and its carry, and the overflow by the three signs. -/
theorem adderIsExactSum : Obligations.AdderIsExactSum := by
  unfold Obligations.AdderIsExactSum
  exact fun a b cin => ⟨add8_exact a b cin, add8_carry_iff a b cin, add8_overflow_iff a b cin,
    add8_overflow_eq_xor a b cin⟩

/-! ### The comparator -/

/-- The comparator is the subtraction and the unsigned order, by two's complement (41_alu.md rule R103). -/
theorem cmp8_eq (r m : Byte) : cmp8 r m = (r - m, decide (m ≤ r)) := by
  rw [cmp8, BitVec.sub_eq_add_neg, BitVec.neg_eq_not_add]
  rfl

/-- Settles O13: the difference both ways, the unsigned order, and 0 below every byte. -/
theorem compareIsUnsignedDifference : Obligations.CompareIsUnsignedDifference := by
  unfold Obligations.CompareIsUnsignedDifference
  intro r m
  refine ⟨?difference, rfl, ?carry, ?zero⟩
  case difference => rw [cmp8_eq]
  case carry => rw [cmp8_eq, decide_eq_true_iff]
  case zero => exact decide_eq_true (Nat.zero_le r.toNat)

/-! ### The instructions -/

theorem setAccumulator_pastInstruction (i : Instr) (v : Byte) (s : State) :
    setAccumulator v (pastInstruction i.operand s) = { s with pc := next i s, a := v, p := zn v s.p } := by
  rw [pastInstruction_operand]
  rfl

/-- The comparator's flags in terms of the difference and the unsigned order (41_alu.md rules R111 to R113). -/
theorem setCompareFlags_eq_zn (r m : Byte) (p : Status) :
    setCompareFlags r m p = zn (r - m) { p with c := decide (m ≤ r) } := by
  rw [setCompareFlags_eq, cmp8_eq]
  rfl

/-- A compare writes `PC` and flags only, whichever register it reads (41_alu.md rules R111 to R113). -/
theorem setCompareFlags_pastInstruction (i : Instr) (r : Byte) (s : State) :
    (pastInstruction i.operand s).setP (setCompareFlags r (M i s) s.p) =
      { s with pc := next i s, p := zn (r - M i s) { s.p with c := decide (M i s ≤ r) } } := by
  rw [setP_pastInstruction, setCompareFlags_eq_zn]

/-- ADC on an instruction's operand: `A` and the four flags come from the adder (41_alu.md rule R104). -/
theorem runAdc_operand (i : Instr) (s : State) :
    runAdc i.operand s =
      { s with
        pc := next i s
        a := (add8 s.a (M i s) s.p.c).result
        p := setSumFlags (add8 s.a (M i s) s.p.c) s.p } := by
  rw [runAdc, pastInstruction_operand]
  rfl

/-- Settles O31: the adder's outputs are those of the sum of `A`, `M` and the carry. -/
theorem adcAddsWithCarry : Obligations.AdcAddsWithCarry := by
  unfold Obligations.AdcAddsWithCarry
  exact ⟨encodedAs_of_perm (by decide), completes_of_handler runAdc_operand⟩

/-- Settles O33: each of the three handlers loads `A` with its combination of `A` and `M`. -/
theorem logicInstructionsCombineIntoA : Obligations.LogicInstructionsCombineIntoA := by
  unfold Obligations.LogicInstructionsCombineIntoA
  exact ⟨encodedAs_of_perm (by decide), completes_of_handler fun i s => setAccumulator_pastInstruction i _ s,
    encodedAs_of_perm (by decide), completes_of_handler fun i s => setAccumulator_pastInstruction i _ s,
    encodedAs_of_perm (by decide), completes_of_handler fun i s => setAccumulator_pastInstruction i _ s⟩

/-- Settles O34: BIT writes `PC` and the three flags of `setBitFlags`. -/
theorem bitTestsTheOperand : Obligations.BitTestsTheOperand := by
  unfold Obligations.BitTestsTheOperand
  exact ⟨encodedAs_of_perm (by decide), completes_of_handler fun i s => setP_pastInstruction i _ s⟩

/-- Settles O35: the three compares differ in the register alone. -/
theorem comparesSetCarryZeroNegative : Obligations.ComparesSetCarryZeroNegative := by
  unfold Obligations.ComparesSetCarryZeroNegative
  exact ⟨encodedAs_of_perm (by decide), completes_of_handler fun i s => setCompareFlags_pastInstruction i s.a s,
    encodedAs_of_perm (by decide), completes_of_handler fun i s => setCompareFlags_pastInstruction i s.x s,
    encodedAs_of_perm (by decide), completes_of_handler fun i s => setCompareFlags_pastInstruction i s.y s⟩

end Sys2Proof.Machine
end

section
/-! The shift and rotate instructions (42_shift_rotate.md): the modes of an instruction's operand, the four
shifts as functions on bytes, and the state after a shift of `A` or of a byte of memory. -/

namespace Sys2Proof

/-- Every instruction is a pair of `STANDARD_TABLE` (30_encoding.md rule R78). -/
theorem Instr.mode_mem_modes (i : Instr) : i.operand.mode ∈ i.mnemonic.modes := by
  rw [← List.contains_iff_mem]
  cases i <;> rfl

namespace Machine
open Rules

/-! ### The operand in memory -/

/-- An instruction whose mnemonic has no Immediate form takes its operand from memory (41_alu.md rule R109). -/
theorem M_eq_read {i : Instr} (h : .immediate ∉ i.mnemonic.modes) (s : State) : M i s = s.read (ea i s) :=
  operandByte_eq_read (fun himm => h (himm ▸ i.mode_mem_modes)) s

theorem shiftOperand_memory {op : Operand} (h : op ≠ .accumulator) (s : State) :
    shiftOperand op s = operandByte op s := by
  cases op with
  | accumulator => exact absurd rfl h
  | _ => rfl

/-! ### The four shifts as functions of the operand and the old carry -/

/-- A mnemonic's handler shifts its operand by a function that answers the result and the bit shifted out. -/
def ShiftsOperandBy (mn : Mnemonic) (shift : Byte → Bool → Byte × Bool) : Prop :=
  ∀ op s, handler mn op s = shiftWith op (shift (shiftOperand op s) s.p.c) s

theorem asl_shiftsOperandBy : ShiftsOperandBy .asl fun v _ => (v <<< 1, v[7]) := fun _ _ => rfl

theorem lsr_shiftsOperandBy : ShiftsOperandBy .lsr fun v _ => (v >>> 1, v[0]) := fun _ _ => rfl

/-- The old carry enters at bit 0, where the model's shift by 0 leaves it (42_shift_rotate.md rule R123). -/
theorem rol_shiftsOperandBy :
    ShiftsOperandBy .rol fun v carry => ((v <<< 1) ||| (BitVec.ofBool carry).setWidth 8, v[7]) := by
  intro op s
  rw [handler, runRol, rol8, bitAt, BitVec.shiftLeft_zero]

theorem ror_shiftsOperandBy :
    ShiftsOperandBy .ror fun v carry => ((v >>> 1) ||| ((BitVec.ofBool carry).setWidth 8 <<< 7), v[0]) :=
  fun _ _ => rfl

/-! ### The state after a shift -/

/-- In Accumulator mode a shift writes `A`, no memory (42_shift_rotate.md rule R120). -/
theorem exec_shift_accumulator {i : Instr} {shift : Byte → Bool → Byte × Bool}
    (h : ShiftsOperandBy i.mnemonic shift) (hop : i.operand = .accumulator) (s : State) :
    exec i s = .next
      { s with
        pc := s.pc + 1
        a := (shift s.a s.p.c).1
        p := zn (shift s.a s.p.c).1 { s.p with c := (shift s.a s.p.c).2 } } := by
  have hpc : nextPC .accumulator s = s.pc + 1 := BitVec.add_zero _
  rw [exec_eq_handler, h, hop, shiftWith_accumulator, hpc]
  rfl

/-- In any other mode a shift writes back the byte at the effective address (42_shift_rotate.md rule R120). -/
theorem exec_shift_memory {mn : Mnemonic} {shift : Byte → Bool → Byte × Bool} (h : ShiftsOperandBy mn shift)
    (hmodes : .immediate ∉ mn.modes) {i : Instr} (hmn : i.mnemonic = mn) (hop : i.operand ≠ .accumulator)
    (s : State) :
    exec i s = .next
      { s.write (ea i s) (shift (s.read (ea i s)) s.p.c).1 with
        pc := next i s
        p := zn (shift (s.read (ea i s)) s.p.c).1 { s.p with c := (shift (s.read (ea i s)) s.p.c).2 } } := by
  subst hmn
  have hoperand : shiftOperand i.operand s = s.read (ea i s) :=
    (shiftOperand_memory hop s).trans (M_eq_read hmodes s)
  rw [exec_eq_handler, h, hoperand, shiftWith_memory hop, nextPC_eq_length]
  rfl

/-- Settles O36: the opcodes from the grid, and each shift on `A` and on memory by its function of operand and carry. -/
theorem shiftsMoveOneBit : Obligations.ShiftsMoveOneBit := by
  unfold Obligations.ShiftsMoveOneBit
  exact ⟨encodedAs_of_perm (by decide), encodedAs_of_perm (by decide), encodedAs_of_perm (by decide),
    encodedAs_of_perm (by decide),
    exec_shift_accumulator (i := .aslAccumulator) asl_shiftsOperandBy rfl,
    fun _ s hmn hop => exec_shift_memory asl_shiftsOperandBy (by decide) hmn hop s,
    exec_shift_accumulator (i := .lsrAccumulator) lsr_shiftsOperandBy rfl,
    fun _ s hmn hop => exec_shift_memory lsr_shiftsOperandBy (by decide) hmn hop s,
    exec_shift_accumulator (i := .rolAccumulator) rol_shiftsOperandBy rfl,
    fun _ s hmn hop => exec_shift_memory rol_shiftsOperandBy (by decide) hmn hop s,
    exec_shift_accumulator (i := .rorAccumulator) ror_shiftsOperandBy rfl,
    fun _ s hmn hop => exec_shift_memory ror_shiftsOperandBy (by decide) hmn hop s⟩

end Machine
end Sys2Proof
end

section
/-! The increment and decrement instructions (43_inc_dec.md): the state after a memory byte is counted, and after an
index register is. -/

namespace Sys2Proof.Machine
open Rules

/-! ### Counting a byte of memory -/

/-- A handler that stores back a count of its operand counts the byte at the effective address, for a mnemonic with no
Immediate form (43_inc_dec.md rules R130, R133). -/
theorem completes_of_storeCounted {mn : Mnemonic} {count : Byte → Byte}
    (h : ∀ op s, handler mn op s = storeCounted op (count (operandByte op s)) s) (hmodes : .immediate ∉ mn.modes) :
    Completes mn fun i s =>
      { s.write (ea i s) (count (s.read (ea i s))) with pc := next i s, p := zn (count (s.read (ea i s))) s.p } := by
  rintro i s rfl
  have hoperand : operandByte i.operand s = s.read (ea i s) := M_eq_read hmodes s
  rw [exec_eq_handler, h, hoperand, storeCounted_eq, nextPC_eq_length]
  rfl

/-- Settles O37: DEC and INC store back their operand less and plus one, and neither has an Immediate form. -/
theorem memoryCountersWrap : Obligations.MemoryCountersWrap := by
  unfold Obligations.MemoryCountersWrap
  exact ⟨encodedAs_of_perm (by decide), completes_of_storeCounted (count := (· - 1)) (fun _ _ => rfl) (by decide),
    encodedAs_of_perm (by decide), completes_of_storeCounted (count := (· + 1)) (fun _ _ => rfl) (by decide)⟩

/-! ### Counting an index register -/

/-- An Implied instruction is its opcode byte alone (30_encoding.md rule R68). -/
theorem pastInstruction_implied (s : State) : pastInstruction .implied s = { s with pc := s.pc + 1 } := by
  have hpc : nextPC .implied s = s.pc + 1 := BitVec.add_zero _
  rw [pastInstruction_eq, hpc]

/-- The state after an Implied instruction that writes `X` and sets Z and N from it (43_inc_dec.md rules R131, R134). -/
theorem setX_pastInstruction_implied (v : Byte) (s : State) :
    ((pastInstruction .implied s).setX v).setP (setZN v s.p) = { s with pc := s.pc + 1, x := v, p := zn v s.p } := by
  rw [pastInstruction_implied]
  rfl

/-- The same for `Y` (43_inc_dec.md rules R132, R135). -/
theorem setY_pastInstruction_implied (v : Byte) (s : State) :
    ((pastInstruction .implied s).setY v).setP (setZN v s.p) = { s with pc := s.pc + 1, y := v, p := zn v s.p } := by
  rw [pastInstruction_implied]
  rfl

/-- Settles O38: the opcodes from the grid, and each executor arm writes its register's count. -/
theorem indexCountersWrap : Obligations.IndexCountersWrap := by
  unfold Obligations.IndexCountersWrap
  exact ⟨encodedAs_of_perm (by decide), fun s => congrArg Host.Outcome.next (setX_pastInstruction_implied (s.x - 1) s),
    encodedAs_of_perm (by decide), fun s => congrArg Host.Outcome.next (setY_pastInstruction_implied (s.y - 1) s),
    encodedAs_of_perm (by decide), fun s => congrArg Host.Outcome.next (setX_pastInstruction_implied (s.x + 1) s),
    encodedAs_of_perm (by decide), fun s => congrArg Host.Outcome.next (setY_pastInstruction_implied (s.y + 1) s)⟩

end Sys2Proof.Machine
end

section
/-! The control transfer instructions (44_control_transfer.md): the state after a branch, after a jump and after an RTS,
and the word that an RTS pulls where a JSR has pushed. -/

namespace Sys2Proof.Machine
open Rules

/-! ### Branches -/

theorem nextPC_relative (rr : Byte) (s : State) : nextPC (.relative rr) s = s.pc + 2 := BitVec.add_assoc ..

/-- A branch writes `PC` alone, and its condition chooses which address (44_control_transfer.md rule R140). -/
theorem branchIf_relative (condition : Bool) (rr : Byte) (s : State) :
    branchIf condition (.relative rr) s =
      { s with pc := if condition then s.pc + 2 + rr.signExtend 16 else s.pc + 2 } := by
  rw [branchIf_eq, nextPC_relative]
  rfl

/-- Settles O39: the opcodes from the grid, and the eight branches differ in the condition alone. -/
theorem branchesTestOneFlag : Obligations.BranchesTestOneFlag := by
  unfold Obligations.BranchesTestOneFlag
  exact ⟨encodedAs_of_perm (by decide), encodedAs_of_perm (by decide), encodedAs_of_perm (by decide),
    encodedAs_of_perm (by decide), encodedAs_of_perm (by decide), encodedAs_of_perm (by decide),
    encodedAs_of_perm (by decide), encodedAs_of_perm (by decide),
    fun rr s => congrArg Host.Outcome.next (branchIf_relative (!s.p.c) rr s),
    fun rr s => congrArg Host.Outcome.next (branchIf_relative s.p.c rr s),
    fun rr s => congrArg Host.Outcome.next (branchIf_relative s.p.z rr s),
    fun rr s => congrArg Host.Outcome.next (branchIf_relative s.p.n rr s),
    fun rr s => congrArg Host.Outcome.next (branchIf_relative (!s.p.z) rr s),
    fun rr s => congrArg Host.Outcome.next (branchIf_relative (!s.p.n) rr s),
    fun rr s => congrArg Host.Outcome.next (branchIf_relative (!s.p.v) rr s),
    fun rr s => congrArg Host.Outcome.next (branchIf_relative s.p.v rr s)⟩

/-! ### Jumps -/

theorem runJmp_indirect (ptr : Word) (s : State) :
    runJmp (.indirect ptr) s = { s with pc := littleEndian s ptr } := by
  rw [← readWord_eq_littleEndian]
  rfl

/-- The last byte of a JSR is two past its opcode, also across 0xFFFF (44_control_transfer.md rule R150). -/
theorem nextPC_absolute_sub_one (addr : Word) (s : State) : nextPC (.absolute addr) s - 1 = s.pc + 2 := by
  have hnext : nextPC (.absolute addr) s = s.pc + 2 + 1 := add_right_comm s.pc 1 2
  rw [hnext, BitVec.add_sub_cancel]

/-- A push neither reads nor writes `PC`, so JSR pushes as if nothing were resolved before (44_control_transfer.md
rule R150). -/
theorem runJsr_absolute (addr : Word) (s : State) :
    runJsr (.absolute addr) s = { push16 (s.pc + 2) s with pc := addr } := by
  rw [runJsr, nextPC_absolute_sub_one]
  rfl

theorem exec_jsr (addr : Word) (s : State) :
    exec (.jsr addr) s = .next { push16 (s.pc + 2) s with pc := addr } :=
  congrArg Host.Outcome.next (runJsr_absolute addr s)

/-- Settles O40: the opcodes from the grid, and JMP and JSR by the address that `PC` takes. -/
theorem jumpsLoadPC : Obligations.JumpsLoadPC := by
  unfold Obligations.JumpsLoadPC
  exact ⟨encodedAs_of_perm (by decide), encodedAs_of_perm (by decide), fun _ _ => rfl,
    fun ptr s => congrArg Host.Outcome.next (runJmp_indirect ptr s), exec_jsr⟩

/-! ### A subroutine call and its return -/

/-- The return address and the stack pointer of an RTS that pulls no status (44_control_transfer.md rule R152). -/
theorem runRts_of_pulls_no_status {s : State} (h : s.cfg.rtsPullsStatus = false) (op : Operand) :
    runRts op s =
      { s with
        pc := wordOf (s.read (stackAddress (s.sp + 1))) (s.read (stackAddress (s.sp + 2))) + 1
        sp := s.sp + 2 } := by
  have hsp : s.sp + 1 + 1 = s.sp + 2 := BitVec.add_assoc ..
  rw [runRts_eq, if_neg (Bool.eq_false_iff.mp h), hsp]

/-- Pulling a pushed word takes the stack pointer back, also where it wraps (20_memory.md rules R55, R56). -/
theorem push16_sp_add_two (w : Word) (s : State) : (push16 w s).sp + 2 = s.sp := by
  rw [push16_sp, BitVec.sub_sub]
  exact BitVec.sub_add_cancel ..

/-- The low byte of a pushed word lies just above the stack pointer (20_memory.md rule R54). -/
theorem push16_read_low (w : Word) (s : State) :
    (push16 w s).read (stackAddress ((push16 w s).sp + 1)) = loByte w := by
  rw [push16_sp, BitVec.sub_add_cancel, push16_read, if_pos rfl]

/-- The high byte lies where the stack pointer was, at another address than the low byte, also where the stack wraps
(20_memory.md rules R54, R56). -/
theorem push16_read_high (w : Word) (s : State) :
    (push16 w s).read (stackAddress ((push16 w s).sp + 2)) = hiByte w := by
  have hne : stackAddress s.sp ≠ stackAddress (s.sp - 1) := by
    rw [Ne, stackAddress_inj]
    bv_omega
  rw [push16_sp_add_two, push16_read, if_neg hne, if_pos rfl]

/-- The two bytes above the stack pointer are the pushed word. -/
theorem wordOf_read_push16 (w : Word) (s : State) :
    wordOf ((push16 w s).read (stackAddress ((push16 w s).sp + 1)))
      ((push16 w s).read (stackAddress ((push16 w s).sp + 2))) = w := by
  rw [push16_read_low, push16_read_high, wordOf_bytes]

/-- Settles O42: the two bytes that RTS pulls are those of the word that JSR pushed, the address of JSR plus 2. -/
theorem jsrThenRtsReturnsPastJsr : Obligations.JsrThenRtsReturnsPastJsr := by
  unfold Obligations.JsrThenRtsReturnsPastJsr
  intro addr s t b hjsr hcfg hsp hlow hhigh
  rw [exec_jsr] at hjsr
  obtain rfl := Host.Outcome.next.inj hjsr
  refine ⟨_, congrArg Host.Outcome.next (runRts_of_pulls_no_status hcfg .implied), ?returnAddress, ?stackPointer⟩
  case returnAddress =>
    have hpulled : wordOf (b.read (stackAddress (b.sp + 1))) (b.read (stackAddress (b.sp + 2))) = s.pc + 2 := by
      rw [hsp, hlow, hhigh]
      exact wordOf_read_push16 (s.pc + 2) s
    exact (congrArg (· + 1) hpulled).trans (BitVec.add_assoc ..)
  case stackPointer => exact (congrArg (· + 2) hsp).trans (push16_sp_add_two (s.pc + 2) s)

end Sys2Proof.Machine
end

section
/-! The load instructions (45_load_store.md): the state after a handler that moves a byte into an index register. A load
of `A` ends as the logic instructions do, in `setAccumulator_pastInstruction`. -/

namespace Sys2Proof.Machine
open Rules

/-- The state after an instruction that writes `X` and sets Z and N from it (45_load_store.md rule R161). -/
theorem setX_pastInstruction (i : Instr) (v : Byte) (s : State) :
    ((pastInstruction i.operand s).setX v).setP (setZN v s.p) = { s with pc := next i s, x := v, p := zn v s.p } := by
  rw [pastInstruction_operand]
  rfl

/-- The same for `Y` (45_load_store.md rule R162). -/
theorem setY_pastInstruction (i : Instr) (v : Byte) (s : State) :
    ((pastInstruction i.operand s).setY v).setP (setZN v s.p) = { s with pc := next i s, y := v, p := zn v s.p } := by
  rw [pastInstruction_operand]
  rfl

/-- Settles O46: the opcodes from the grid, and each handler moves `M` into its own register. -/
theorem loadsMoveOperandToRegister : Obligations.LoadsMoveOperandToRegister := by
  unfold Obligations.LoadsMoveOperandToRegister
  exact ⟨encodedAs_of_perm (by decide), completes_of_handler fun i s => setAccumulator_pastInstruction i (M i s) s,
    encodedAs_of_perm (by decide), completes_of_handler fun i s => setX_pastInstruction i (M i s) s,
    encodedAs_of_perm (by decide), completes_of_handler fun i s => setY_pastInstruction i (M i s) s⟩

end Sys2Proof.Machine
end

section
/-! NOP (47_flags_transfer_nop.md): its handler only resolves the operand. -/

namespace Sys2Proof.Machine
open Rules

theorem exec_nop (s : State) : exec .nop s = .next { s with pc := s.pc + 1 } := by
  rw [exec_eq_handler]
  exact congrArg Host.Outcome.next (pastInstruction_implied s)

/-- Settles O52: the opcode from the grid, and a handler that does no more than move `PC` past the instruction. -/
theorem nopOnlyAdvancesPC : Obligations.NopOnlyAdvancesPC := by
  unfold Obligations.NopOnlyAdvancesPC
  exact ⟨encodedAs_of_perm (by decide), exec_nop⟩

end Sys2Proof.Machine
end

section
/-! The only fault of a running block (60_exceptions.md section 1): every pair of mnemonic and operand that is fetched
runs to a next state. -/

namespace Sys2Proof.Machine

/-- No instruction faults or is refused, and a pair outside `STANDARD_TABLE` runs too (60_exceptions.md rule R202,
30_encoding.md rule R80). -/
theorem exists_runPair_eq_next (mn : Mnemonic) (op : Operand) (s : State) : ∃ t, runPair mn op s = .next t := by
  unfold runPair
  cases Instr.ofPair mn op with
  | some i => exact ⟨_, exec_eq_handler i s⟩
  | none => exact ⟨_, rfl⟩

/-- An opcode byte with an entry is fetched (30_encoding.md rule R72), and what is fetched runs. -/
theorem exists_step_eq_next_of_entry {s : State} (hh : s.halted = false)
    (he : s.cfg.opcodeTable (s.read s.pc) ≠ none) : ∃ t, step s = .next t := by
  obtain ⟨⟨mn, op⟩, hf⟩ := Option.ne_none_iff_exists'.mp (mt (fetch_eq_none_iff s).mp he)
  rw [step_of_fetch hh hf]
  exact exists_runPair_eq_next mn op s

/-- Settles O24: by whether the opcode byte has an entry. With one the step answers a next state, without one the
fault, which is no next state. -/
theorem onlyUnknownOpcodesStopARunningBlock : Obligations.OnlyUnknownOpcodesStopARunningBlock := by
  unfold Obligations.OnlyUnknownOpcodesStopARunningBlock
  intro s hh
  by_cases he : s.cfg.opcodeTable (s.read s.pc) = none
  · have hfault := step_of_no_entry hh he
    simp [hfault, he]
  · have hnext := exists_step_eq_next_of_entry hh he
    exact ⟨iff_of_true hnext he, .inl hnext⟩

end Sys2Proof.Machine
end

section
/-! The halted bit over a step, and the ends of a run (60_exceptions.md section 1, 70_reset_and_hazards.md section 2). -/

namespace Sys2Proof.Machine

/-! ### The halted bit -/

theorem runRts_halted (op : Operand) (s : State) : (runRts op s).halted = s.halted := by
  rw [runRts_eq]
  split <;> rfl

theorem runBrk_halted (op : Operand) (s : State) : (runBrk op s).halted = s.halted := by
  rw [runBrk_eq]
  split <;> rfl

/-- No mnemonic's handler writes the halted bit (10_state.md rule R27). -/
@[simp] theorem handler_halted (mn : Mnemonic) (op : Operand) (s : State) :
    (handler mn op s).halted = s.halted := by
  cases mn with
  | asl | lsr | rol | ror => exact shiftWith_halted ..
  | bcc | bcs | beq | bmi | bne | bpl | bvc | bvs => exact branchIf_halted ..
  | rts => exact runRts_halted op s
  | brk => exact runBrk_halted op s
  | _ => rfl

/-- A pair runs to the state of a handler, its instruction's or its own (30_encoding.md rule R80). -/
theorem exists_handler_of_runPair {mn : Mnemonic} {op : Operand} {s t : State} (h : runPair mn op s = .next t) :
    ∃ mn' op', t = handler mn' op' s := by
  unfold runPair at h
  split at h
  next i _ =>
    rw [exec_eq_handler] at h
    exact ⟨i.mnemonic, i.operand, (Host.Outcome.next.inj h).symm⟩
  next => exact ⟨mn, op, (Host.Outcome.next.inj h).symm⟩

/-- A step that answers a next state leaves a running block running (10_state.md rule R27). -/
theorem step_next_halted {s t : State} (h : step s = .next t) : t.halted = false := by
  obtain ⟨hh, _, _, -, hrun⟩ := step_next h
  obtain ⟨mn, op, rfl⟩ := exists_handler_of_runPair hrun
  rw [handler_halted, hh]

/-- The fatal fault leaves the block halted and otherwise as it was (60_exceptions.md rules R200, R201). -/
theorem stateAfter_of_no_entry {s : State} (hh : s.halted = false) (h : s.cfg.opcodeTable (s.read s.pc) = none) :
    stateAfter s = { s with halted := true } := by
  have hfault : cycle s = .fault (.unknownOpcode (s.read s.pc) s.pc) := step_of_no_entry hh h
  rw [stateAfter, hfault]
  rfl

/-! ### Runs (70_reset_and_hazards.md rule R224) -/

theorem runUntil_of_pc_eq {stop : Word} {s : State} (h : s.pc = stop) (k : Nat) :
    runUntil stop k s = .stopped s := by
  cases k <;> exact if_pos h

theorem runUntil_zero_of_pc_ne {stop : Word} {s : State} (h : s.pc ≠ stop) : runUntil stop 0 s = .going s :=
  if_neg h

theorem runUntil_succ_of_next {stop : Word} {s t : State} (hpc : s.pc ≠ stop) (hstep : step s = .next t) (k : Nat) :
    runUntil stop (k + 1) s = runUntil stop k t := by
  rw [runUntil, if_neg hpc, hstep]

theorem runUntil_succ_of_fault {stop : Word} {s : State} {f : Fault} (hpc : s.pc ≠ stop)
    (hstep : step s = .fault f) (k : Nat) : runUntil stop (k + 1) s = .faulted f (stateAfter s) := by
  rw [runUntil, if_neg hpc, hstep]

/-- Settles O58, by induction on the number of steps: a step of a running block away from the stop address either
raises the fatal fault, which ends the run halted, or leaves the block running for the rest of the run. -/
theorem runsAreNeverRefused : Obligations.RunsAreNeverRefused := by
  unfold Obligations.RunsAreNeverRefused
  intro stop k s hh
  induction k generalizing s with
  | zero =>
    by_cases hpc : s.pc = stop
    · rw [runUntil_of_pc_eq hpc]
      exact ⟨hpc, hh⟩
    · rw [runUntil_zero_of_pc_ne hpc]
      exact ⟨hpc, hh⟩
  | succ k ih =>
    by_cases hpc : s.pc = stop
    · rw [runUntil_of_pc_eq hpc]
      exact ⟨hpc, hh⟩
    by_cases he : s.cfg.opcodeTable (s.read s.pc) = none
    · rw [runUntil_succ_of_fault hpc (step_of_no_entry hh he), stateAfter_of_no_entry hh he]
      exact ⟨rfl, rfl⟩
    · obtain ⟨t, hstep⟩ := exists_step_eq_next_of_entry hh he
      rw [runUntil_succ_of_next hpc hstep]
      exact ih t (step_next_halted hstep)

end Sys2Proof.Machine
end

section
/-! Memory over a step (20_memory.md section 3): a list of accesses replayed on memory, each handler's memory as the
replay of its listed accesses, and what every step keeps. -/

namespace Sys2Proof

/-- The constructor of a pair has that pair's mnemonic and operand; a pair with no constructor is not asked about
(30_encoding.md rules R78, R80). -/
theorem Instr.mnemonic_operand_of_ofPair {mn : Mnemonic} {op : Operand} {i : Instr} (h : Instr.ofPair mn op = some i) :
    i.mnemonic = mn ∧ i.operand = op := by
  cases mn <;> cases op <;> cases h <;> exact ⟨rfl, rfl⟩

namespace Machine

/-! ### Replaying accesses -/

theorem replay_append (as bs : List Access) (m : Memory) : replay (as ++ bs) m = replay bs (replay as m) := by
  induction as generalizing m with
  | nil => rfl
  | cons access as ih => cases access <;> exact ih _

/-- Reads leave memory as it is (20_memory.md rule R57). -/
theorem replay_map_read {α : Type} (addr : α → Word) (xs : List α) (m : Memory) :
    replay (xs.map fun x => .read (addr x)) m = m := by
  induction xs with
  | nil => rfl
  | cons x xs ih => exact ih

theorem replay_pullAccesses (sp : Byte) (k : Nat) (m : Memory) : replay (pullAccesses sp k) m = m :=
  replay_map_read ..

theorem replay_resolverAccesses (op : Operand) (s : State) (m : Memory) : replay (resolverAccesses op s) m = m := by
  cases op <;> rfl

/-- A write is at a word address, so any accesses keep the canonical form (20_memory.md rule R45). -/
theorem replay_wf (as : List Access) {m : Memory} (hm : m.wf = true) : (replay as m).wf = true := by
  induction as generalizing m with
  | nil => exact hm
  | cons access as ih =>
    cases access with
    | read => exact ih hm
    | write addr v => exact ih (Memory.write_wf v addr.isLt hm)

/-! ### The memory that a handler leaves -/

theorem shiftWith_mem (op : Operand) (out : Byte × Bool) (s : State) :
    (shiftWith op out s).mem = replay (shiftAccesses op out.1 s) s.mem := by
  cases op <;> rfl

theorem runRts_mem (op : Operand) (s : State) : (runRts op s).mem = s.mem := by
  rw [runRts_eq]
  split <;> rfl

theorem runBrk_mem (op : Operand) (s : State) : (runBrk op s).mem = replay (executorAccesses .brk op s) s.mem := by
  have hsp : s.sp - 1 - 1 = s.sp - 2 := BitVec.sub_sub ..
  rw [runBrk_eq, executorAccesses, ← hsp]
  split <;> rfl

/-- A handler writes nothing that its accesses do not list (20_memory.md rule R58). -/
theorem handler_mem (mn : Mnemonic) (op : Operand) (s : State) :
    (handler mn op s).mem = replay (executorAccesses mn op s) s.mem := by
  cases mn with
  | asl | lsr | rol | ror => exact shiftWith_mem ..
  | bcc | bcs | beq | bmi | bne | bpl | bvc | bvs => exact branchIf_mem ..
  | rts => exact (runRts_mem op s).trans (replay_pullAccesses ..).symm
  | brk => exact runBrk_mem op s
  | _ => rfl

theorem handler_mem_wf (mn : Mnemonic) (op : Operand) {s : State} (hs : s.mem.wf = true) :
    (handler mn op s).mem.wf = true := by
  rw [handler_mem]
  exact replay_wf _ hs

/-! ### The step -/

/-- Every pair runs its mnemonic's handler, a pair outside `STANDARD_TABLE` too (30_encoding.md rules R73, R80). -/
theorem runPair_eq_handler (mn : Mnemonic) (op : Operand) (s : State) : runPair mn op s = .next (handler mn op s) := by
  cases h : Instr.ofPair mn op with
  | none => rw [runPair, h]
  | some i =>
    obtain ⟨rfl, rfl⟩ := Instr.mnemonic_operand_of_ofPair h
    rw [runPair_of_instr h, exec_eq_handler]

/-- A step that answers a next state has run the handler of the fetched pair (00_scope.md rule R14). -/
theorem step_next_handler {s t : State} (h : step s = .next t) :
    s.halted = false ∧ ∃ mn op, fetch s = some (mn, op) ∧ t = handler mn op s := by
  obtain ⟨hh, mn, op, hf, hrun⟩ := step_next h
  rw [runPair_eq_handler] at hrun
  exact ⟨hh, mn, op, hf, (Host.Outcome.next.inj hrun).symm⟩

theorem stepAccesses_of_fetch {s : State} {mn : Mnemonic} {op : Operand} (hh : s.halted = false)
    (hf : fetch s = some (mn, op)) :
    stepAccesses s = .read s.pc :: (resolverAccesses op s ++ executorAccesses mn op s) := by
  simp [stepAccesses, hh, hf]

/-- Settles O3: every handler keeps the canonical form of memory, and a step with a next state leaves the block running.
-/
theorem stepKeepsInvariant : Obligations.StepKeepsInvariant := by
  unfold Obligations.StepKeepsInvariant
  rintro s t ⟨hwf, -⟩ hstep
  obtain ⟨-, mn, op, -, rfl⟩ := step_next_handler hstep
  exact ⟨handler_mem_wf mn op hwf, step_next_halted hstep⟩

/-- Settles O57: the opcode's read comes first, the resolver only reads, and the rest is the handler's. -/
theorem traceAccountsForMemory : Obligations.TraceAccountsForMemory := by
  unfold Obligations.TraceAccountsForMemory
  intro s t hstep
  obtain ⟨hh, mn, op, hf, rfl⟩ := step_next_handler hstep
  rw [stepAccesses_of_fetch hh hf]
  refine ⟨rfl, ?_⟩
  calc (handler mn op s).mem
      = replay (executorAccesses mn op s) s.mem := handler_mem mn op s
    _ = replay (resolverAccesses op s ++ executorAccesses mn op s) s.mem := by
      rw [replay_append, replay_resolverAccesses]

end Machine
end Sys2Proof
end

section
/-! The encoding round trip (30_encoding.md sections 1, 3 and 4): an instruction's bytes under a table decode to it, and
bytes that decode under a table are an entry's opcode byte and the operand's bytes. -/

namespace Sys2Proof

/-! ### The instructions as pairs of `STANDARD_TABLE` -/

/-- No two constructors share a mnemonic and an operand (30_encoding.md rule R78). -/
theorem Instr.ofPair_mnemonic_operand (i : Instr) : Instr.ofPair i.mnemonic i.operand = some i := by
  cases i <;> rfl

/-- The list of rule R78 agrees with the grid of rule R77. -/
theorem standardTable_opcode (i : Instr) : standardTable i.opcode = some (i.mnemonic, i.operand.mode) := by
  cases i <;> rfl

/-- The opcode byte that rule R78 lists for a pair, whatever the operand bytes. -/
def listedOpcode (mn : Mnemonic) (mode : Mode) : Option Byte :=
  (Instr.ofPair mn (mode.operandOf 0 0)).map Instr.opcode

theorem listedOpcode_eq_opcode (i : Instr) : listedOpcode i.mnemonic i.operand.mode = some i.opcode := by
  cases i <;> rfl

/-- One walk over each line: the list takes each pair back to the byte at which it stands. -/
theorem listedOpcode_of_mem_rowsFrom :
    ∀ line ∈ tableLines.zipIdx, ∀ row ∈ rowsFrom (fun _ => true) (16 * line.2) line.1,
      (listedOpcode row.2.1 row.2.2).map BitVec.toNat = some row.1 := by
  decide

/-- The grid has each instruction's pair at one byte only (30_encoding.md rule R77). -/
theorem eq_opcode_of_standardTable {b : Byte} {i : Instr}
    (h : standardTable b = some (i.mnemonic, i.operand.mode)) : b = i.opcode := by
  rw [standardTable_eq_some_iff_mem_tableRows (p := fun _ => true) rfl, tableRows_eq_rowsOfLines] at h
  obtain ⟨line, hline, hrow⟩ := List.mem_flatMap.mp h
  have hlisted := listedOpcode_of_mem_rowsFrom line hline _ hrow
  rw [listedOpcode_eq_opcode, Option.map_some, Option.some_inj, BitVec.toNat_inj] at hlisted
  exact hlisted.symm

/-! ### Operand bytes -/

/-- What the operand's mode takes from its own bytes is the operand (30_encoding.md rule R68). -/
theorem Operand.takeOperand_bytes_append (op : Operand) (rest : List Byte) :
    op.mode.takeOperand (op.bytes ++ rest) = some (op, rest) := by
  cases op <;> simp [Mode.takeOperand, Operand.mode, Operand.bytes, Mode.operandBytes, Mode.operandOf,
    Machine.wordOf_bytes]

/-- A mode's operand holds the bytes that the mode consumes, if there are so many. -/
theorem Mode.bytes_operandOf {mode : Mode} {bytes : List Byte} (h : mode.operandBytes ≤ bytes.length) :
    (mode.operandOf (bytes.getD 0 0) (bytes.getD 1 0)).bytes = bytes.take mode.operandBytes := by
  cases mode with
  | accumulator | implied => rfl
  | absolute | absoluteX | absoluteY | indirect =>
    obtain ⟨b1, tail1, rfl⟩ := List.exists_cons_of_length_pos (Nat.zero_lt_of_lt h)
    obtain ⟨b2, tail2, rfl⟩ := List.exists_cons_of_length_pos (Nat.le_of_succ_le_succ h)
    exact congrArg₂ (fun lo hi => [lo, hi]) (Machine.loByte_wordOf b1 b2) (Machine.hiByte_wordOf b1 b2)
  | _ =>
    obtain ⟨b1, tail, rfl⟩ := List.exists_cons_of_length_pos h
    rfl

/-- The bytes that a mode consumes are those of the operand it takes (30_encoding.md rule R68). -/
theorem Mode.bytes_of_takeOperand {mode : Mode} {bytes rest : List Byte} {op : Operand}
    (h : mode.takeOperand bytes = some (op, rest)) : op.mode = mode ∧ bytes = op.bytes ++ rest := by
  rw [Mode.takeOperand] at h
  split at h
  next hlen =>
    simp only [Option.some_inj, Prod.mk.injEq] at h
    obtain ⟨rfl, rfl⟩ := h
    rw [Mode.bytes_operandOf hlen, List.take_append_drop]
    exact ⟨Machine.operandOf_mode .., rfl⟩
  next => cases h

/-! ### Decoding -/

/-- An entry's byte and the operand's bytes decode to the entry's instruction (30_encoding.md rules R67, R72). -/
theorem decodeWith_of_entry {cfg : Config} {b : Byte} {i : Instr}
    (h : cfg.opcodeTable b = some (i.mnemonic, i.operand.mode)) (rest : List Byte) :
    decodeWith cfg (b :: (i.operand.bytes ++ rest)) = .instr i rest := by
  simp only [decodeWith, h, Operand.takeOperand_bytes_append, Instr.ofPair_mnemonic_operand]

/-- Bytes decode to an instruction only as its entry's byte and its operand's bytes. -/
theorem entry_of_decodeWith {cfg : Config} {bytes rest : List Byte} {i : Instr}
    (h : decodeWith cfg bytes = .instr i rest) :
    ∃ b, cfg.opcodeTable b = some (i.mnemonic, i.operand.mode) ∧ bytes = b :: (i.operand.bytes ++ rest) := by
  unfold decodeWith at h
  split at h
  next => cases h
  next b tail =>
    split at h
    next => cases h
    next mn mode hentry =>
      split at h
      next => cases h
      next op rest' htake =>
        split at h
        next j hpair =>
          obtain ⟨rfl, rfl⟩ := Decoded.instr.inj h
          obtain ⟨rfl, rfl⟩ := Instr.mnemonic_operand_of_ofPair hpair
          obtain ⟨rfl, rfl⟩ := Mode.bytes_of_takeOperand htake
          exact ⟨b, hentry, rfl⟩
        next => cases h

/-- Settles O17: the byte that the table gives the pair has the pair as its entry. -/
theorem decodeInvertsEncodeUnderAnyTable : Obligations.DecodeInvertsEncodeUnderAnyTable := by
  unfold Obligations.DecodeInvertsEncodeUnderAnyTable
  intro cfg i bytes rest h
  obtain ⟨b, hfound, rfl⟩ := Option.map_eq_some_iff.mp h
  have hentry : cfg.opcodeTable b = some (i.mnemonic, i.operand.mode) := by
    simpa using List.find?_some hfound
  exact decodeWith_of_entry hentry rest

/-- Settles O15: the opcode that the list gives an instruction has its pair in the grid. -/
theorem decodeInvertsEncode : Obligations.DecodeInvertsEncode := by
  unfold Obligations.DecodeInvertsEncode
  intro i rest
  have hentry : Config.opcodeTable {} i.opcode = some (i.mnemonic, i.operand.mode) :=
    (Config.opcodeTable_of_no_changes rfl _).trans (standardTable_opcode i)
  exact decodeWith_of_entry hentry rest

/-- Settles O16: the grid has the pair at no other byte than the one that the list gives. -/
theorem encodeInvertsDecode : Obligations.EncodeInvertsDecode := by
  unfold Obligations.EncodeInvertsDecode
  intro bytes i rest h
  obtain ⟨b, hentry, rfl⟩ := entry_of_decodeWith h
  obtain rfl : b = i.opcode := eq_opcode_of_standardTable hentry
  rfl

end Sys2Proof
end

section
/-! The step on the bytes at `PC` (00_scope.md section 5, 60_exceptions.md section 1): the decoder's answer as the pair
that is fetched, the operand at its effective address, a halted block, and the parameters over a step. -/

namespace Sys2Proof.Machine
open Rules

/-! ### Decoding and fetching -/

/-- An entry for the opcode byte and the operand's bytes after it are what the fetch reads (30_encoding.md rules R69 to
R72). -/
theorem fetch_of_entry {s : State} {b : Byte} {mn : Mnemonic} {op : Operand} {rest : List Byte}
    (hentry : s.cfg.opcodeTable b = some (mn, op.mode)) (hbytes : bytesAtPC s = b :: (op.bytes ++ rest)) :
    fetch s = some (mn, op) := by
  obtain ⟨rfl, hoperand⟩ := List.cons.inj hbytes
  have htake := Operand.takeOperand_bytes_append op rest
  rw [← hoperand, takeOperand_three, Option.some_inj, Prod.mk.injEq] at htake
  obtain ⟨hop, -⟩ := htake
  simp only [fetch, fetchOpcode, hentry, hop]

theorem fetch_of_decodeWith_instr {s : State} {i : Instr} {rest : List Byte}
    (h : decodeWith s.cfg (bytesAtPC s) = .instr i rest) : fetch s = some (i.mnemonic, i.operand) := by
  obtain ⟨b, hentry, hbytes⟩ := entry_of_decodeWith h
  exact fetch_of_entry hentry hbytes

/-- The decoder rejects only what the fetch reads as a pair that is no row (30_encoding.md rule R80). -/
theorem fetch_of_decodeWith_nonStandardPair {s : State} {mn : Mnemonic} {op : Operand}
    (h : decodeWith s.cfg (bytesAtPC s) = .reject (.nonStandardPair mn op)) : fetch s = some (mn, op) := by
  simp only [bytesAtPC, decodeWith, takeOperand_three] at h
  split at h
  next => cases h
  next hentry =>
    split at h
    next => cases h
    next =>
      cases h
      simp only [fetch, fetchOpcode, hentry]

/-- Settles O25: each arm of the executor is the handler. -/
theorem execIsHandlerOnResolvedOperand : Obligations.ExecIsHandlerOnResolvedOperand :=
  exec_eq_handler

/-- Settles O21: what the decoder answers is the pair that is fetched, and the step runs its handler. -/
theorem stepRunsDecodedInstruction : Obligations.StepRunsDecodedInstruction := by
  unfold Obligations.StepRunsDecodedInstruction
  constructor
  · intro s i rest hh _ hdecode
    rw [step_of_fetch hh (fetch_of_decodeWith_instr hdecode), runPair_eq_handler, exec_eq_handler]
  · intro s mn op hh hdecode
    rw [step_of_fetch hh (fetch_of_decodeWith_nonStandardPair hdecode), runPair_eq_handler]

/-- A fetched operand has been read with the mode of an entry (30_encoding.md rule R72). -/
theorem exists_mode_of_fetch {s : State} {mn : Mnemonic} {op : Operand} (h : fetch s = some (mn, op)) :
    ∃ mode, op = operandAtPC mode s := by
  unfold fetch at h
  split at h
  next mode _ =>
    cases h
    exact ⟨mode, rfl⟩
  next => cases h

/-- The Immediate operand's effective address is that of the byte the fetch read (40_addressing.md rule R88). -/
theorem operandByte_operandAtPC (mode : Mode) (s : State) :
    operandByte (operandAtPC mode s) s = s.read (effectiveAddress (operandAtPC mode s) s) := by
  cases mode <;> rfl

/-- Settles O26: the decoded operand is the one at `PC`, where an Immediate byte too is at its effective address. -/
theorem operandIsByteAtEffectiveAddress : Obligations.OperandIsByteAtEffectiveAddress := by
  unfold Obligations.OperandIsByteAtEffectiveAddress
  intro s i rest hdecode
  obtain ⟨mode, hop⟩ := exists_mode_of_fetch (fetch_of_decodeWith_instr hdecode)
  rw [hop, operandByte_operandAtPC]

/-! ### Faults -/

/-- An unknown opcode is the step's only access (60_exceptions.md rule R200). -/
theorem stepAccesses_of_no_entry {s : State} (hh : s.halted = false) (h : s.cfg.opcodeTable (s.read s.pc) = none) :
    stepAccesses s = [.read s.pc] := by
  simp [stepAccesses, hh, (fetch_eq_none_iff s).mpr h]

/-- Settles O22: the fault, its one access and the state it leaves, each from the missing entry. -/
theorem unknownOpcodeIsFatal : Obligations.UnknownOpcodeIsFatal := by
  unfold Obligations.UnknownOpcodeIsFatal
  exact fun s hh he => ⟨step_of_no_entry hh he, stepAccesses_of_no_entry hh he, stateAfter_of_no_entry hh he⟩

theorem stateAfter_of_halted {s : State} (hh : s.halted = true) : stateAfter s = s := by
  have hfault : cycle s = .fault .halted := step_of_halted hh
  rw [stateAfter, hfault]

/-- No host action writes the halted bit (60_exceptions.md rule R201). -/
theorem applyHostAction_halted (action : HostAction) (s : State) : (applyHostAction action s).halted = s.halted := by
  cases action <;> rfl

/-- Settles O23: a halted block makes no access and keeps its state, the halted bit under any host action too. -/
theorem haltedBlockHasNoStep : Obligations.HaltedBlockHasNoStep := by
  unfold Obligations.HaltedBlockHasNoStep
  exact fun s action hh => ⟨step_of_halted hh, if_pos hh, stateAfter_of_halted hh,
    (applyHostAction_halted action s).trans hh⟩

/-! ### The parameters -/

theorem runRts_cfg (op : Operand) (s : State) : (runRts op s).cfg = s.cfg := by
  rw [runRts_eq]
  split <;> rfl

theorem runBrk_cfg (op : Operand) (s : State) : (runBrk op s).cfg = s.cfg := by
  rw [runBrk_eq]
  split
  · rfl
  · simp only [push8_cfg, push16_cfg]

/-- No mnemonic's handler writes the parameters (00_scope.md rules R9, R11). -/
@[simp] theorem handler_cfg (mn : Mnemonic) (op : Operand) (s : State) : (handler mn op s).cfg = s.cfg := by
  cases mn with
  | asl | lsr | rol | ror => exact shiftWith_cfg ..
  | bcc | bcs | beq | bmi | bne | bpl | bvc | bvs => exact branchIf_cfg ..
  | rts => exact runRts_cfg op s
  | brk => exact runBrk_cfg op s
  | _ => rfl

/-- Settles O4: the step runs a handler, and no handler writes the parameters. -/
theorem stepNeverChangesParameters : Obligations.StepNeverChangesParameters := by
  unfold Obligations.StepNeverChangesParameters
  intro s t hstep
  obtain ⟨-, mn, op, -, rfl⟩ := step_next_handler hstep
  exact handler_cfg mn op s

/-! ### Construction and sample words -/

/-- Settles O1: construction over an image writes each register, and the bytes at `PC` are the image's first three. -/
theorem constructionZeroesEveryRegister : Obligations.ConstructionZeroesEveryRegister := by
  unfold Obligations.ConstructionZeroesEveryRegister
  have hpack : pack State.reset.p = 0x20 := by decide
  exact ⟨fun _ _ => ⟨rfl, hpack, rfl⟩, rfl⟩

/-- Settles O2: nothing is listed in memory at reset. -/
theorem resetMeetsInvariant : Obligations.ResetMeetsInvariant :=
  ⟨reset_mem_wf, rfl⟩

/-- Settles O18: each list of bytes is the encoding of its instruction. -/
theorem sampleWordsDecode : Obligations.SampleWordsDecode := by
  unfold Obligations.SampleWordsDecode
  exact ⟨decodeInvertsEncode (.adcImmediate 0x42) [], decodeInvertsEncode (.rorAbsolute 0x1234) [],
    decodeInvertsEncode (.incZeroPageX 0x80) [], decodeInvertsEncode (.beq 0xFE) [],
    decodeInvertsEncode (.jmpIndirect 0x10FF) [], decodeInvertsEncode (.ldaIndirectY 0xF0) [],
    decodeInvertsEncode .php [], decodeInvertsEncode .txs []⟩

end Sys2Proof.Machine
end

section
/-! Words in memory and the stack (20_memory.md sections 1 and 2): a word read back after it is written, and a pushed
word where it lies, as it is pulled, and at the ends of page 1. -/

namespace Sys2Proof.Machine
open Rules

/-! ### Words -/

/-- The second write of a word does not reach the first, since an address is not its own successor. -/
theorem readWord_writeWord (s : State) (addr w : Word) : (s.writeWord addr w).readWord addr = w := by
  have hne : addr ≠ addr + 1 := by bv_omega
  rw [State.readWord, State.writeWord, State.read_write_same, State.read_write_other _ _ hne, State.read_write_same,
    wordOf_bytes]

/-- Settles O5: the word read by its two bytes, their order, and the word written back. -/
theorem wordAccessesAreLittleEndian : Obligations.WordAccessesAreLittleEndian := by
  unfold Obligations.WordAccessesAreLittleEndian
  exact fun s addr w => ⟨readWord_eq_littleEndian s addr, rfl, rfl, readWord_writeWord s addr w⟩

/-! ### The stack -/

/-- Settles O6: the two helpers as records. -/
theorem stackByteHelpers : Obligations.StackByteHelpers := by
  unfold Obligations.StackByteHelpers
  exact fun v s => ⟨push8_eq v s, pull8_eq s⟩

/-- The two bytes above the stack pointer are all that a pushed word has written (20_memory.md rule R54). -/
theorem push16_read_other (w : Word) (s : State) {addr : Word}
    (hlow : addr ≠ stackAddress ((push16 w s).sp + 1)) (hhigh : addr ≠ stackAddress ((push16 w s).sp + 2)) :
    (push16 w s).read addr = s.read addr := by
  rw [push16_sp_add_two] at hhigh
  rw [push16_sp, BitVec.sub_add_cancel] at hlow
  rw [push16_read, if_neg hlow, if_neg hhigh]

/-- Settles O7: the two bytes above the new stack pointer, and every other byte. -/
theorem stackWordLayout : Obligations.StackWordLayout := by
  unfold Obligations.StackWordLayout
  exact fun w s => ⟨BitVec.sub_sub .., push16_read_low w s, push16_read_high w s,
    fun _ hlow hhigh => push16_read_other w s hlow hhigh, rfl⟩

/-- Settles O8: the two pulled bytes are those pushed, and two increments undo two decrements. -/
theorem stackWordRoundTrip : Obligations.StackWordRoundTrip := by
  unfold Obligations.StackWordRoundTrip
  intro w s
  have hsp : (push16 w s).sp + 1 + 1 = (push16 w s).sp + 2 := BitVec.add_assoc ..
  rw [pull16_eq, hsp, wordOf_read_push16, push16_sp_add_two]

/-- The page of the stack is fixed (10_state.md rule R24, 20_memory.md rule R56). -/
theorem stackAddress_page (sp : Byte) : 0x0100 ≤ (stackAddress sp).toNat ∧ (stackAddress sp).toNat ≤ 0x01FF := by
  have hlt := sp.isLt
  rw [stackAddress_toNat]
  omega

theorem stackAddress_zero : stackAddress 0x00 = 0x0100 := by decide

theorem stackAddress_max : stackAddress 0xFF = 0x01FF := by decide

/-- Settles O9: the page of every stack address, and the helpers' records at the ends of the page. -/
theorem stackNeverLeavesPageOne : Obligations.StackNeverLeavesPageOne := by
  unfold Obligations.StackNeverLeavesPageOne
  have hup : (0xFF : Byte) + 1 = 0x00 := by decide
  have hdown : (0x00 : Byte) - 1 = 0xFF := by decide
  refine ⟨stackAddress_page, ?pushAtBottom, ?pullAtTop, ?pushWordAtBottom⟩
  case pushAtBottom => exact fun v s => push8_eq v { s with sp := 0x00 }
  case pullAtTop =>
    intro s
    simp only [pull8_eq, hup, stackAddress_zero]
    rfl
  case pushWordAtBottom =>
    intro w s
    simp only [push16_eq, hdown, stackAddress_zero, stackAddress_max]
    rfl

end Sys2Proof.Machine
end

section
/-! SBC (41_alu.md rules R101 and R105): the adder on the complement of a byte as a subtraction with borrow. -/

namespace Sys2Proof.Machine
open Rules

/-- The borrow is the complement of the carry in (41_alu.md rule R105). -/
theorem toNat_not_add_toNat (c : Bool) : (!c).toNat + c.toNat = 1 := by
  cases c <;> rfl

/-- Adding the complement takes the byte and the borrow away (41_alu.md rule R105). -/
theorem add8_not_result (a m : Byte) (c : Bool) :
    (add8 a (~~~m) c).result = a - m - BitVec.ofNat 8 (!c).toNat := by
  have hexact := add8_exact a (~~~m) c
  have hcarry := (add8 a (~~~m) c).carry.toNat_le
  have hborrow := toNat_not_add_toNat c
  rw [BitVec.toNat_not] at hexact
  bv_omega

/-- There is a carry out exactly when nothing is borrowed. -/
theorem add8_not_carry (a m : Byte) (c : Bool) :
    (add8 a (~~~m) c).carry = decide (m.toNat + (!c).toNat ≤ a.toNat) := by
  have hm := m.isLt
  have hborrow := toNat_not_add_toNat c
  rw [Bool.eq_iff_iff, add8_carry_iff, decide_eq_true_iff, BitVec.toNat_not]
  omega

/-- Bit 7 is the sign (41_alu.md rule R101). -/
theorem getElem_seven_eq_decide (v : Byte) : v[7] = decide (128 ≤ v.toNat) :=
  BitVec.msb_eq_decide v

/-- The overflow is that of the signed difference (92_eei_decisions.md D26). -/
theorem add8_not_overflow (a m : Byte) (c : Bool) :
    (add8 a (~~~m) c).overflow =
      decide (a.toInt - m.toInt - (!c).toNat < -128 ∨ 127 < a.toInt - m.toInt - (!c).toNat) := by
  have hexact := add8_exact a (~~~m) c
  have hcarry := (add8 a (~~~m) c).carry.toNat_le
  have hborrow := toNat_not_add_toNat c
  have ha := a.isLt
  have hm := m.isLt
  have hr := (add8 a (~~~m) c).result.isLt
  rw [BitVec.toNat_not] at hexact
  rw [Bool.eq_iff_iff, add8_overflow_iff, decide_eq_true_iff, BitVec.toInt_eq_toNat_cond, BitVec.toInt_eq_toNat_cond]
  simp only [getElem_seven_eq_decide, decide_eq_decide, ne_eq, BitVec.toNat_not]
  split <;> split <;> omega

/-- SBC on an instruction's operand: `A` and the four flags come from the difference with borrow. -/
theorem runSbc_operand (i : Instr) (s : State) :
    runSbc i.operand s =
      { s with
        pc := next i s
        a := (add8 s.a (~~~ M i s) s.p.c).result
        p := zn (add8 s.a (~~~ M i s) s.p.c).result
          { s.p with c := (add8 s.a (~~~ M i s) s.p.c).carry, v := (add8 s.a (~~~ M i s) s.p.c).overflow } } := by
  rw [runSbc, pastInstruction_operand]
  rfl

/-- Settles O32: the adder's outputs on the complement of `M` are those of the difference with borrow. -/
theorem sbcSubtractsWithBorrow : Obligations.SbcSubtractsWithBorrow := by
  unfold Obligations.SbcSubtractsWithBorrow
  refine ⟨encodedAs_of_perm (by decide), completes_of_handler fun i s => ?_⟩
  simp only [← add8_not_result, ← add8_not_carry, ← add8_not_overflow]
  exact runSbc_operand i s

end Sys2Proof.Machine
end

section
/-! RTS, RTI and BRK (44_control_transfer.md sections 2 and 3): the state after each as one record over the stack bytes,
and the return that finds what a trap pushed. -/

namespace Sys2Proof.Machine
open Rules

/-! ### The returns -/

/-- The return address and the status of an RTS that pulls one (44_control_transfer.md rule R152). -/
theorem runRts_of_pulls_status {s : State} (h : s.cfg.rtsPullsStatus = true) (op : Operand) :
    runRts op s =
      { s with
        p := unpack (s.read (stackAddress (s.sp + 1)))
        pc := wordOf (s.read (stackAddress (s.sp + 2))) (s.read (stackAddress (s.sp + 3))) + 1
        sp := s.sp + 3 } := by
  have htwo : s.sp + 1 + 1 = s.sp + 2 := BitVec.add_assoc ..
  have hthree : s.sp + 2 + 1 = s.sp + 3 := BitVec.add_assoc ..
  rw [runRts_eq, if_pos h, htwo, hthree]

/-- Settles O41: the opcode from the grid, and RTS under each setting of its switch. -/
theorem rtsReturnsPastThePulledAddress : Obligations.RtsReturnsPastThePulledAddress := by
  unfold Obligations.RtsReturnsPastThePulledAddress
  exact ⟨encodedAs_of_perm (by decide),
    fun _ h => congrArg Host.Outcome.next (runRts_of_pulls_no_status h .implied),
    fun _ h => congrArg Host.Outcome.next (runRts_of_pulls_status h .implied)⟩

/-- RTI reads the stack only, so resolving before it leaves no mark (44_control_transfer.md rule R153). -/
theorem exec_rti (s : State) :
    exec .rti s = .next
      { s with
        p := unpack (s.read (stackAddress (s.sp + 1)))
        pc := wordOf (s.read (stackAddress (s.sp + 2))) (s.read (stackAddress (s.sp + 3)))
        sp := s.sp + 3 } := by
  have htwo : s.sp + 1 + 1 = s.sp + 2 := BitVec.add_assoc ..
  have hthree : s.sp + 2 + 1 = s.sp + 3 := BitVec.add_assoc ..
  have hrun : runRti .implied s = _ := returnFromTrap_eq (pastInstruction .implied s)
  rw [pastInstruction_sp, htwo, hthree] at hrun
  exact congrArg Host.Outcome.next hrun

/-- Settles O43: the opcode from the grid, and the return as one record. -/
theorem rtiRestoresStatusAndPC : Obligations.RtiRestoresStatusAndPC := by
  unfold Obligations.RtiRestoresStatusAndPC
  exact ⟨encodedAs_of_perm (by decide), exec_rti⟩

/-! ### The trap -/

theorem nextPC_implied (s : State) : nextPC .implied s = s.pc + 1 := BitVec.add_zero _

/-- The vector lies outside the stack page, so a push leaves it as it was (20_memory.md rules R56, R60). -/
theorem push8_readWord_vector (v : Byte) (s : State) : (push8 v s).readWord brkVector = s.readWord brkVector := by
  obtain ⟨hlow, hhigh⟩ := stackAddress_ne_vector s.sp
  rw [State.readWord, State.readWord, push8_read, push8_read, if_neg hlow.symm, if_neg hhigh.symm]

/-- The I flag after a trap: as it was, or set under the switch (44_control_transfer.md rule R154). -/
theorem ite_set_i (p : Status) (setsI : Bool) :
    (if setsI then { p with i := true } else p) = { p with i := p.i || setsI } := by
  cases setsI with
  | false => rw [Bool.or_false]; rfl
  | true => rw [Bool.or_true]; rfl

/-- Three bytes pushed in descending order (20_memory.md rules R52, R54). -/
theorem push8_push16_eq (v : Byte) (w : Word) (s : State) :
    push8 v (push16 w s) =
      { ((s.write (stackAddress s.sp) (hiByte w)).write (stackAddress (s.sp - 1)) (loByte w)).write
          (stackAddress (s.sp - 2)) v with
        sp := s.sp - 3 } := by
  have htwo : s.sp - 1 - 1 = s.sp - 2 := BitVec.sub_sub ..
  have hthree : s.sp - 2 - 1 = s.sp - 3 := BitVec.sub_sub ..
  rw [push8_eq, push16_sp, htwo, hthree]
  rfl

theorem brkTraps_iff (s : State) : brkTraps s = true ↔ s.cfg.brkMaskedByI = false ∨ s.p.i = false := by
  rw [brkTraps, Bool.not_eq_true', Bool.and_eq_false_iff]

theorem not_masked_of_traps {s : State} (h : brkTraps s = true) : ¬(s.cfg.brkMaskedByI && s.p.i) = true :=
  Bool.eq_false_iff.mp ((Bool.not_eq_true' _).mp h)

/-- A BRK that traps: the three pushes, the vector and the I flag (44_control_transfer.md rule R154). -/
theorem exec_brk_of_traps {s : State} (h : brkTraps s = true) :
    exec .brk s = .next
      { push8 (pack s.p ||| 0x10) (push16 (s.pc + 1) s) with
        p := { s.p with i := s.p.i || s.cfg.brkSetsI }
        pc := littleEndian s 0xFFFE } := by
  have hvector : (push8 (pack s.p ||| 0x10) (push16 (s.pc + 1) s)).readWord brkVector = littleEndian s 0xFFFE := by
    rw [push8_readWord_vector, push16, push8_readWord_vector, push8_readWord_vector]
    exact readWord_eq_littleEndian s brkVector
  rw [← hvector, ← ite_set_i, ← nextPC_implied]
  exact congrArg Host.Outcome.next ((runBrk_eq .implied s).trans (if_neg (not_masked_of_traps h)))

/-- A masked BRK moves `PC` alone (44_control_transfer.md rule R155). -/
theorem exec_brk_of_masked {s : State} (hmask : s.cfg.brkMaskedByI = true) (hi : s.p.i = true) :
    exec .brk s = .next { s with pc := s.pc + 1 } := by
  have hmasked : (s.cfg.brkMaskedByI && s.p.i) = true := Bool.and_eq_true_iff.mpr ⟨hmask, hi⟩
  rw [← nextPC_implied]
  exact congrArg Host.Outcome.next ((runBrk_eq .implied s).trans (if_pos hmasked))

/-- Settles O44: the opcode from the grid, a masked BRK, and the trap with its three bytes in descending order. -/
theorem brkTrapsUnlessMasked : Obligations.BrkTrapsUnlessMasked := by
  unfold Obligations.BrkTrapsUnlessMasked
  refine ⟨encodedAs_of_perm (by decide), fun _ => exec_brk_of_masked, ?traps⟩
  case traps =>
    intro s h
    rw [exec_brk_of_traps ((brkTraps_iff s).mpr h), push8_push16_eq]
    rfl

/-! ### The return from a trap -/

/-- Forcing bit 4 of the pushed byte sets B in what is pulled, and nothing else (92_eei_decisions.md D8, D12). -/
theorem unpack_pack_or_break (p : Status) : unpack (pack p ||| 0x10) = { p with b := true } := by
  simp [unpack]

/-- The three bytes that a trap leaves above the stack pointer are the status and the return address, also where the
stack wraps (44_control_transfer.md rule R154). -/
theorem read_push8_push16 (v : Byte) (w : Word) (s : State) :
    (push8 v (push16 w s)).read (stackAddress ((push8 v (push16 w s)).sp + 1)) = v ∧
      (push8 v (push16 w s)).read (stackAddress ((push8 v (push16 w s)).sp + 2)) = loByte w ∧
      (push8 v (push16 w s)).read (stackAddress ((push8 v (push16 w s)).sp + 3)) = hiByte w := by
  have hone : (push16 w s).sp - 1 + 1 = (push16 w s).sp := BitVec.sub_add_cancel ..
  have htwo : (push16 w s).sp - 1 + 2 = (push16 w s).sp + 1 := by bv_omega
  have hthree : (push16 w s).sp - 1 + 3 = (push16 w s).sp + 2 := by bv_omega
  have hlow : stackAddress ((push16 w s).sp + 1) ≠ stackAddress (push16 w s).sp := by
    rw [Ne, stackAddress_inj]
    bv_omega
  have hhigh : stackAddress ((push16 w s).sp + 2) ≠ stackAddress (push16 w s).sp := by
    rw [Ne, stackAddress_inj]
    bv_omega
  rw [push8_sp, hone, htwo, hthree, push8_read, push8_read, push8_read, if_pos rfl, if_neg hlow, if_neg hhigh]
  exact ⟨rfl, push16_read_low w s, push16_read_high w s⟩

/-- Pulling three pushed bytes takes the stack pointer back. -/
theorem push8_push16_sp_add_three (v : Byte) (w : Word) (s : State) : (push8 v (push16 w s)).sp + 3 = s.sp := by
  rw [push8_sp, push16_sp]
  bv_omega

/-- Settles O45: RTI pulls the three bytes that BRK has pushed. -/
theorem brkThenRtiReturnsPastBrk : Obligations.BrkThenRtiReturnsPastBrk := by
  unfold Obligations.BrkThenRtiReturnsPastBrk
  intro s t b htraps hbrk hsp hstatus hlow hhigh
  rw [exec_brk_of_traps htraps] at hbrk
  have ht := Host.Outcome.next.inj hbrk
  have htsp : t.sp = (push8 (pack s.p ||| 0x10) (push16 (s.pc + 1) s)).sp := ht ▸ rfl
  have htread : ∀ c, t.read c = (push8 (pack s.p ||| 0x10) (push16 (s.pc + 1) s)).read c := fun c => ht ▸ rfl
  obtain ⟨hreadStatus, hreadLow, hreadHigh⟩ := read_push8_push16 (pack s.p ||| 0x10) (s.pc + 1) s
  refine ⟨_, exec_rti b, ?returnAddress, ?stackPointer, ?status⟩
  case returnAddress =>
    dsimp only
    rw [hsp, hlow, hhigh, htread, htread, htsp, hreadLow, hreadHigh, wordOf_bytes]
  case stackPointer =>
    dsimp only
    rw [hsp, htsp, push8_push16_sp_add_three]
  case status =>
    dsimp only
    rw [hsp, hstatus, htread, htsp, hreadStatus, unpack_pack_or_break]

end Sys2Proof.Machine
end

section
/-! Stores, the stack instructions, the flag instructions and the transfers (45_load_store.md, 46_stack.md,
47_flags_transfer_nop.md): the state after each as one record. -/

namespace Sys2Proof.Machine
open Rules

/-! ### Stores -/

/-- A store writes `PC` and one byte of memory, whichever register it takes the byte from (45_load_store.md rules R163
to R165). -/
theorem write_pastInstruction (i : Instr) (v : Byte) (s : State) :
    (pastInstruction i.operand s).write (ea i s) v = { s.write (ea i s) v with pc := next i s } := by
  rw [pastInstruction_operand]
  rfl

/-- Settles O47: the opcodes from the grid, and the three stores differ in the register alone. -/
theorem storesWriteRegisterToMemory : Obligations.StoresWriteRegisterToMemory := by
  unfold Obligations.StoresWriteRegisterToMemory
  exact ⟨encodedAs_of_perm (by decide), completes_of_handler fun i s => write_pastInstruction i s.a s,
    encodedAs_of_perm (by decide), completes_of_handler fun i s => write_pastInstruction i s.x s,
    encodedAs_of_perm (by decide), completes_of_handler fun i s => write_pastInstruction i s.y s⟩

/-! ### The stack instructions -/

/-- The state after an Implied instruction that pushes a byte (46_stack.md rules R170, R171). -/
theorem push8_pastInstruction_implied (v : Byte) (s : State) :
    push8 v (pastInstruction .implied s) =
      { s.write (0x0100 + s.sp.setWidth 16) v with pc := s.pc + 1, sp := s.sp - 1 } := by
  rw [pastInstruction_implied]
  rfl

theorem runPla_implied (s : State) :
    runPla .implied s =
      { s with
        pc := s.pc + 1
        a := s.read (stackAddress (s.sp + 1))
        sp := s.sp + 1
        p := zn (s.read (stackAddress (s.sp + 1))) s.p } := by
  rw [runPla, pastInstruction_implied]
  rfl

theorem runPlp_implied (s : State) :
    runPlp .implied s =
      { s with pc := s.pc + 1, sp := s.sp + 1, p := unpack (s.read (stackAddress (s.sp + 1))) } := by
  rw [runPlp, pastInstruction_implied]
  rfl

/-- Settles O48: the opcodes from the grid, the two pushes by the byte they push, and the two pulls. -/
theorem stackInstructionsMoveOneByte : Obligations.StackInstructionsMoveOneByte := by
  unfold Obligations.StackInstructionsMoveOneByte
  exact ⟨encodedAs_of_perm (by decide), encodedAs_of_perm (by decide),
    fun s => congrArg Host.Outcome.next (push8_pastInstruction_implied s.a s),
    fun s => congrArg Host.Outcome.next (push8_pastInstruction_implied (pack s.p) s),
    encodedAs_of_perm (by decide), encodedAs_of_perm (by decide),
    fun s => congrArg Host.Outcome.next (runPla_implied s), fun s => congrArg Host.Outcome.next (runPlp_implied s)⟩

/-- The pushed byte lies just above the stack pointer, also where the stack wraps (20_memory.md rules R52, R56). -/
theorem push8_read_top (v : Byte) (s : State) : (push8 v s).read (stackAddress ((push8 v s).sp + 1)) = v := by
  rw [push8_sp, BitVec.sub_add_cancel, push8_read, if_pos rfl]

/-- Settles O49: PLP unpacks the byte that PHP has packed. -/
theorem phpThenPlpRestoresStatus : Obligations.PhpThenPlpRestoresStatus := by
  unfold Obligations.PhpThenPlpRestoresStatus
  intro s t b hphp hsp hstatus
  have ht : push8 (pack s.p) (pastInstruction .implied s) = t := Host.Outcome.next.inj hphp
  have htop : t.read (stackAddress (t.sp + 1)) = pack s.p := ht ▸ push8_read_top ..
  have htsp : t.sp + 1 = s.sp := ht ▸ BitVec.sub_add_cancel ..
  refine ⟨_, congrArg Host.Outcome.next (runPlp_implied b), ?status, ?stackPointer⟩
  case status =>
    dsimp only
    rw [hsp, hstatus, htop, unpack_pack]
  case stackPointer => exact (congrArg (· + 1) hsp).trans htsp

/-! ### The flag instructions -/

theorem writeFlag_implied (f : Flag) (value : Bool) (s : State) :
    writeFlag f value .implied s = { s with pc := s.pc + 1, p := s.p.set f value } := by
  rw [writeFlag_eq, nextPC_implied]

/-- Settles O50: the opcodes from the grid, and the seven instructions differ in the flag and its value. -/
theorem flagInstructionsWriteOneFlag : Obligations.FlagInstructionsWriteOneFlag := by
  unfold Obligations.FlagInstructionsWriteOneFlag
  exact ⟨encodedAs_of_perm (by decide), fun s => congrArg Host.Outcome.next (writeFlag_implied .c true s),
    encodedAs_of_perm (by decide), fun s => congrArg Host.Outcome.next (writeFlag_implied .d true s),
    encodedAs_of_perm (by decide), fun s => congrArg Host.Outcome.next (writeFlag_implied .i true s),
    encodedAs_of_perm (by decide), fun s => congrArg Host.Outcome.next (writeFlag_implied .c false s),
    encodedAs_of_perm (by decide), fun s => congrArg Host.Outcome.next (writeFlag_implied .d false s),
    encodedAs_of_perm (by decide), fun s => congrArg Host.Outcome.next (writeFlag_implied .i false s),
    encodedAs_of_perm (by decide), fun s => congrArg Host.Outcome.next (writeFlag_implied .v false s)⟩

/-! ### The transfers -/

/-- The state after an Implied instruction that writes `A` and sets Z and N from it (47_flags_transfer_nop.md rules
R191, R193). -/
theorem setAccumulator_pastInstruction_implied (v : Byte) (s : State) :
    setAccumulator v (pastInstruction .implied s) = { s with pc := s.pc + 1, a := v, p := zn v s.p } := by
  rw [pastInstruction_implied]
  rfl

/-- TXS writes no flag (47_flags_transfer_nop.md rule R192). -/
theorem runTxs_implied (s : State) : runTxs .implied s = { s with pc := s.pc + 1, sp := s.x } := by
  rw [runTxs, pastInstruction_implied]
  rfl

/-- Settles O51: the opcodes from the grid, and each transfer by the register it writes. -/
theorem transfersCopyRegisters : Obligations.TransfersCopyRegisters := by
  unfold Obligations.TransfersCopyRegisters
  exact ⟨encodedAs_of_perm (by decide), encodedAs_of_perm (by decide), encodedAs_of_perm (by decide),
    encodedAs_of_perm (by decide), encodedAs_of_perm (by decide), encodedAs_of_perm (by decide),
    fun s => congrArg Host.Outcome.next (setX_pastInstruction_implied s.a s),
    fun s => congrArg Host.Outcome.next (setY_pastInstruction_implied s.a s),
    fun s => congrArg Host.Outcome.next (setX_pastInstruction_implied s.sp s),
    fun s => congrArg Host.Outcome.next (setAccumulator_pastInstruction_implied s.x s),
    fun s => congrArg Host.Outcome.next (setAccumulator_pastInstruction_implied s.y s),
    fun s => congrArg Host.Outcome.next (runTxs_implied s)⟩

end Sys2Proof.Machine
end

section
/-! The frames over all instructions (10_state.md sections 1 and 3, 20_memory.md section 3): what each mnemonic's
handler leaves of each register, of `PC`, of each flag and of memory, and that no handler reads the D flag. -/

namespace Sys2Proof.Machine
open Rules

/-- What an instruction answers is what its mnemonic's handler leaves. -/
theorem eq_handler_of_exec {i : Instr} {s t : State} (h : exec i s = .next t) :
    t = handler i.mnemonic i.operand s := by
  rw [exec_eq_handler] at h
  exact (Host.Outcome.next.inj h).symm

/-! ### Registers -/

theorem shiftWith_memory_a {op : Operand} (h : op.mode ≠ .accumulator) (out : Byte × Bool) (s : State) :
    (shiftWith op out s).a = s.a := by
  have hop : op ≠ .accumulator := fun heq => h (heq ▸ rfl)
  rw [shiftWith_memory hop]
  rfl

/-- A return writes none of `A`, `X` and `Y`, whether or not it pulls a status (44_control_transfer.md rule R152). -/
theorem runRts_axy (op : Operand) (s : State) :
    (runRts op s).a = s.a ∧ (runRts op s).x = s.x ∧ (runRts op s).y = s.y := by
  rw [runRts_eq]
  split <;> exact ⟨rfl, rfl, rfl⟩

/-- Nor does BRK, masked or not (44_control_transfer.md rules R154, R155). -/
theorem runBrk_axy (op : Operand) (s : State) :
    (runBrk op s).a = s.a ∧ (runBrk op s).x = s.x ∧ (runBrk op s).y = s.y := by
  rw [runBrk_eq]
  split
  · exact ⟨rfl, rfl, rfl⟩
  · simp only [push8_a, push8_x, push8_y, push16_a, push16_x, push16_y, and_self]

/-- The writers of `A` (10_state.md rule R21), by the mnemonic and, for a shift, the mode. -/
theorem handler_a {i : Instr} (h : writesA i = false) (s : State) :
    (handler i.mnemonic i.operand s).a = s.a := by
  rw [writesA] at h
  generalize i.mnemonic = mn, i.operand = op at h ⊢
  cases mn with
  | adc | sbc | and | ora | eor | lda | pla | txa | tya => cases h
  | asl | lsr | rol | ror => exact shiftWith_memory_a (beq_eq_false_iff_ne.mp h) ..
  | bcc | bcs | beq | bmi | bne | bpl | bvc | bvs => exact branchIf_a ..
  | rts => exact (runRts_axy op s).1
  | brk => exact (runBrk_axy op s).1
  | _ => rfl

/-- The writers of `X` (10_state.md rule R22). -/
theorem handler_x {mn : Mnemonic} (h : mn ∉ ([.ldx, .dex, .inx, .tax, .tsx] : List Mnemonic)) (op : Operand)
    (s : State) : (handler mn op s).x = s.x := by
  cases mn with
  | ldx | dex | inx | tax | tsx => exact absurd (by decide) h
  | asl | lsr | rol | ror => exact shiftWith_x ..
  | bcc | bcs | beq | bmi | bne | bpl | bvc | bvs => exact branchIf_x ..
  | rts => exact (runRts_axy op s).2.1
  | brk => exact (runBrk_axy op s).2.1
  | _ => rfl

/-- The writers of `Y` (10_state.md rule R22). -/
theorem handler_y {mn : Mnemonic} (h : mn ∉ ([.ldy, .dey, .iny, .tay] : List Mnemonic)) (op : Operand) (s : State) :
    (handler mn op s).y = s.y := by
  cases mn with
  | ldy | dey | iny | tay => exact absurd (by decide) h
  | asl | lsr | rol | ror => exact shiftWith_y ..
  | bcc | bcs | beq | bmi | bne | bpl | bvc | bvs => exact branchIf_y ..
  | rts => exact (runRts_axy op s).2.2
  | brk => exact (runBrk_axy op s).2.2
  | _ => rfl

/-- A BRK that does not trap moves `PC` alone (44_control_transfer.md rule R155). -/
theorem runBrk_of_not_traps {s : State} (h : brkTraps s = false) (op : Operand) :
    runBrk op s = { s with pc := nextPC op s } := by
  rw [runBrk_eq, if_pos ((Bool.not_eq_false' _).mp h)]

/-- The writers of `S` (10_state.md rule R24). -/
theorem handler_sp {i : Instr} {s : State} (h : writesSP i s = false) :
    (handler i.mnemonic i.operand s).sp = s.sp := by
  rw [writesSP] at h
  generalize i.mnemonic = mn, i.operand = op at h ⊢
  cases mn with
  | pha | php | pla | plp | jsr | rts | rti | txs => cases h
  | asl | lsr | rol | ror => exact shiftWith_sp ..
  | bcc | bcs | beq | bmi | bne | bpl | bvc | bvs => exact branchIf_sp ..
  | brk => rw [handler, runBrk_of_not_traps h]
  | _ => rfl

/-- Settles O53: the handler's registers one by one. -/
theorem registerFrame : Obligations.RegisterFrame := by
  unfold Obligations.RegisterFrame
  intro i s t hexec
  obtain rfl := eq_handler_of_exec hexec
  refine ⟨fun h => handler_a h s, fun h => ?x, fun h => ?y, handler_sp, handler_halted .., handler_cfg ..⟩
  case x => exact handler_x (by simpa [writesX] using h) ..
  case y => exact handler_y (by simpa [writesY] using h) ..

/-- The mnemonics that leave `PC` past the instruction (10_state.md rule R23). -/
theorem handler_pc {mn : Mnemonic}
    (h : mn ∉ ([.bcc, .bcs, .beq, .bmi, .bne, .bpl, .bvc, .bvs, .jmp, .jsr, .rts, .rti, .brk] : List Mnemonic))
    (op : Operand) (s : State) : (handler mn op s).pc = nextPC op s := by
  cases mn with
  | bcc | bcs | beq | bmi | bne | bpl | bvc | bvs | jmp | jsr | rts | rti | brk => exact absurd (by decide) h
  | asl | lsr | rol | ror => exact shiftWith_pc ..
  | _ => rfl

/-- Settles O56: the resolver's advance is the length of the encoding. -/
theorem sequentialInstructionsAdvancePC : Obligations.SequentialInstructionsAdvancePC := by
  unfold Obligations.SequentialInstructionsAdvancePC
  intro i s t hexec hmn
  obtain rfl := eq_handler_of_exec hexec
  rw [handler_pc hmn, nextPC_eq_length, encode_length, Instr.length]

/-! ### Flags -/

/-- `setZN` leaves every flag but Z and N (10_state.md rule R30). -/
theorem setZN_get {f : Flag} (hz : f ≠ .z) (hn : f ≠ .n) (v : Byte) (p : Status) : (setZN v p).get f = p.get f := by
  rw [setZN, Status.get_set_other _ _ hn, Status.get_set_other _ _ hz]

/-- A BRK writes no flag but I, and I only when it traps under its switch (44_control_transfer.md rule R154). -/
theorem runBrk_get {f : Flag} {s : State} (h : (f == .i && s.cfg.brkSetsI && brkTraps s) = false) (op : Operand) :
    (runBrk op s).p.get f = s.p.get f := by
  cases htraps : brkTraps s with
  | false => rw [runBrk_of_not_traps htraps]
  | true =>
    rw [htraps, Bool.and_true] at h
    rw [runBrk_eq, if_neg (not_masked_of_traps htraps)]
    cases hsets : s.cfg.brkSetsI with
    | false => rfl
    | true =>
      rw [hsets, Bool.and_true] at h
      exact Status.get_set_other s.p true (beq_eq_false_iff_ne.mp h)

/-- The writers of each flag (10_state.md rule R33), with what the switches of RTS and BRK add. -/
theorem handler_p_get {i : Instr} {f : Flag} {s : State} (h : writesFlag i f s = false) :
    (handler i.mnemonic i.operand s).p.get f = s.p.get f := by
  rw [writesFlag, Bool.or_eq_false_iff, Bool.or_eq_false_iff] at h
  obtain ⟨⟨hcontains, hrts⟩, hbrk⟩ := h
  have hw : i.mnemonic ∉ f.writers := by simpa using hcontains
  generalize i.mnemonic = mn, i.operand = op at hw hrts hbrk ⊢
  have hne : ∀ g, mn ∈ g.writers → f ≠ g := fun g hg heq => hw (heq ▸ hg)
  cases mn with
  | adc | sbc =>
    refine (setZN_get (hne .z (by decide)) (hne .n (by decide)) ..).trans ?_
    exact (Status.get_set_other _ _ (hne .v (by decide))).trans (Status.get_set_other _ _ (hne .c (by decide)))
  | cmp | cpx | cpy | asl | lsr | rol | ror =>
    refine (setZN_get (hne .z (by decide)) (hne .n (by decide)) ..).trans ?_
    exact Status.get_set_other _ _ (hne .c (by decide))
  | bit =>
    refine (Status.get_set_other _ _ (hne .z (by decide))).trans ?_
    exact (Status.get_set_other _ _ (hne .v (by decide))).trans (Status.get_set_other _ _ (hne .n (by decide)))
  | and | ora | eor | lda | ldx | ldy | dec | dex | dey | inc | inx | iny | pla | tax | tay | tsx | txa | tya =>
    exact setZN_get (hne .z (by decide)) (hne .n (by decide)) ..
  | sec | clc => exact Status.get_set_other _ _ (hne .c (by decide))
  | sed | cld => exact Status.get_set_other _ _ (hne .d (by decide))
  | sei | cli => exact Status.get_set_other _ _ (hne .i (by decide))
  | clv => exact Status.get_set_other _ _ (hne .v (by decide))
  | plp | rti => exact absurd (by cases f <;> decide) hw
  | bcc | bcs | beq | bmi | bne | bpl | bvc | bvs => exact congrArg (·.get f) (branchIf_p ..)
  | rts => rw [handler, runRts_of_pulls_no_status hrts]
  | brk => exact runBrk_get hbrk op
  | _ => rfl

/-- Settles O54: the handler's flags one by one. -/
theorem flagFrame : Obligations.FlagFrame := by
  unfold Obligations.FlagFrame
  intro i s t f hexec h
  obtain rfl := eq_handler_of_exec hexec
  exact handler_p_get h

/-! ### Memory -/

/-- The address that an access writes. -/
def Access.storedTo : Access → Option Word
  | .read _ => none
  | .write addr _ => some addr

theorem read_replay_of_not_stored {as : List Access} {addr : Word} (h : addr ∉ as.filterMap Access.storedTo)
    (m : Memory) : (replay as m).read addr.toNat = m.read addr.toNat := by
  induction as generalizing m with
  | nil => rfl
  | cons access as ih =>
    cases access with
    | read => exact ih h m
    | write a v =>
      have hne : addr ≠ a := List.ne_of_not_mem_cons h
      exact (ih (List.not_mem_of_not_mem_cons h) _).trans
        (Memory.read_write_other m v (mt BitVec.toNat_inj.mp hne))

/-- The bytes that an instruction stores are those of the writes in its trace (20_memory.md rule R58). -/
theorem storesTo_eq (i : Instr) (s : State) :
    storesTo i s = (executorAccesses i.mnemonic i.operand s).filterMap Access.storedTo := by
  rw [storesTo]
  generalize i.mnemonic = mn, i.operand = op
  cases mn with
  | asl | lsr | rol | ror => cases op <;> rfl
  | rts => cases h : s.cfg.rtsPullsStatus <;> simp only [executorAccesses, h] <;> rfl
  | brk => cases h : s.cfg.brkMaskedByI && s.p.i <;> simp only [executorAccesses, brkTraps, h] <;> rfl
  | _ => rfl

/-- Settles O55: an address that is not stored to is not written in the trace, whose replay is the memory after. -/
theorem memoryFrame : Obligations.MemoryFrame := by
  unfold Obligations.MemoryFrame
  intro i s t addr hexec h
  obtain rfl := eq_handler_of_exec hexec
  rw [storesTo_eq] at h
  rw [State.read, handler_mem]
  exact read_replay_of_not_stored h s.mem

/-! ### The D flag -/

theorem shiftWith_withD (b : Bool) (op : Operand) (out : Byte × Bool) (s : State) :
    shiftWith op out (withD b s) = withD b (shiftWith op out s) := by
  cases op <;> rfl

theorem branchIf_withD (condition b : Bool) (op : Operand) (s : State) :
    branchIf condition op (withD b s) = withD b (branchIf condition op s) := by
  cases condition <;> cases op <;> rfl

/-- RTS replaces D under its switch, and else neither reads nor writes it (44_control_transfer.md rule R152). -/
theorem runRts_withD (b : Bool) (op : Operand) (s : State) :
    runRts op (withD b s) = if s.cfg.rtsPullsStatus then runRts op s else withD b (runRts op s) := by
  split
  next h =>
    rw [runRts_of_pulls_status h, runRts_of_pulls_status (s := withD b s) h]
    rfl
  next h =>
    have hpulls : s.cfg.rtsPullsStatus = false := Bool.eq_false_iff.mpr h
    rw [runRts_of_pulls_no_status hpulls, runRts_of_pulls_no_status (s := withD b s) hpulls]
    rfl

/-- Where D is written, what it was before is lost. -/
theorem handler_withD_of_writes {mn : Mnemonic} (h : mn ∈ Flag.d.writers) (b : Bool) (op : Operand) (s : State) :
    handler mn op (withD b s) = handler mn op s := by
  cases mn with
  | sed | cld | plp | rti => rfl
  | _ => exact absurd h (by decide)

/-- Where D is not written, it decides nothing (41_alu.md rule R102). -/
theorem handler_withD {mn : Mnemonic} (h : mn ∉ .php :: .brk :: .rts :: Flag.d.writers) (b : Bool) (op : Operand)
    (s : State) : handler mn op (withD b s) = withD b (handler mn op s) := by
  cases mn with
  | php | brk | rts | sed | cld | plp | rti => exact absurd (by decide) h
  | asl | lsr | rol | ror => exact shiftWith_withD ..
  | bcc | bcs | beq | bmi | bne | bpl | bvc | bvs => exact branchIf_withD ..
  | _ => rfl

/-- BRK's switch is on the flag I, so it has no say over D. -/
theorem writesFlag_d (i : Instr) (s : State) :
    writesFlag i .d s = true ↔
      i.mnemonic ∈ Flag.d.writers ∨ i.mnemonic = .rts ∧ s.cfg.rtsPullsStatus = true := by
  simp [writesFlag]

/-- Settles O14, by whether the mnemonic writes D always, writes it under its switch, or never. -/
theorem decimalFlagHasNoEffect : Obligations.DecimalFlagHasNoEffect := by
  unfold Obligations.DecimalFlagHasNoEffect
  intro i s t b hphp hbrk hexec
  obtain rfl := eq_handler_of_exec hexec
  rw [exec_eq_handler]
  simp only [writesFlag_d]
  generalize i.mnemonic = mn, i.operand = op at hphp hbrk ⊢
  by_cases hwrites : mn ∈ Flag.d.writers
  · rw [handler_withD_of_writes hwrites, if_pos (.inl hwrites)]
  by_cases hrts : mn = .rts
  · subst hrts
    have hswitch : (.rts ∈ Flag.d.writers ∨ Mnemonic.rts = .rts ∧ s.cfg.rtsPullsStatus = true) ↔
        s.cfg.rtsPullsStatus = true := by
      simp [hwrites]
    exact congrArg Host.Outcome.next ((runRts_withD b op s).trans (if_congr hswitch.symm rfl rfl))
  · have hnever : ¬(mn ∈ Flag.d.writers ∨ mn = .rts ∧ s.cfg.rtsPullsStatus = true) := by simp [hwrites, hrts]
    rw [if_neg hnever, handler_withD (by simp [hphp, hbrk, hrts, hwrites])]

end Sys2Proof.Machine
end
